-- ==== Sys2Proof/Word.lean ====
section
/-! DEFINITION. The words of the Frazbel 2406: bytes, and the 12-bit sequence numbers of link frames. -/

namespace Sys2Proof

/-- A byte is eight bits (00_scope.md, Conventions). -/
abbrev Byte := BitVec 8

/-- A link frame sequence number, 0 to 4095, wrapping (00_scope.md, Conventions; R177). -/
abbrev LinkSeq := BitVec 12

end Sys2Proof
end

