-- ==== Sys2Proof/Syntax.lean ====
section
/-! DEFINITION. The commands of the block: one constructor per row of spec/opcode_table.json. A command is an event
that reaches the bridge; its operands are what the event brings from outside. -/

namespace Sys2Proof

/-- The six bays, numbered 0 to 5 (00_scope.md, Conventions). -/
inductive BayId
  | b0 | b1 | b2 | b3 | b4 | b5
  deriving DecidableEq, Repr

/-- The two presence contacts of a bay (4.2). -/
inductive Contact
  | presA | presB
  deriving DecidableEq, Repr

/-- The fields of a FETCH, PORT_FETCH or PORT_STORE packet as the wire carries them (R146, R191): one byte each for
tag and length, eight address bytes, and the bytes beyond the 11-byte header. -/
structure RequestFields where
  tag     : Byte
  length  : Byte
  address : BitVec 64
  data    : List Byte
  deriving DecidableEq, Repr

/-- The fields of a STORE packet as the wire carries them (R146, R191), with the bytes beyond the 10-byte header. -/
structure StoreFields where
  length  : Byte
  address : BitVec 64
  data    : List Byte
  deriving DecidableEq, Repr

/-- The event that the bay's lifecycle controller takes between the end of the fourth timed-out request and the
UNRESPONSIVE report that follows it (R67, R104, R112; log 17). -/
inductive BeforeReport
  | nothing
  /-- The pools' report that the list of a quiescing bay has become empty. -/
  | quiesceCompletion
  /-- The expiry of the removal timer. -/
  | removal
  /-- The loss of PGOOD. -/
  | pgoodLoss
  /-- A QUIESCE, as the MGMT packet that brings it. -/
  | quiesce (seq : Byte) (operands : List Byte)
  deriving DecidableEq, Repr

/-- The event that a request packet meets between two steps of its own arrival (R15, R36, R47; logs 28 and 29). -/
inductive Meeting
  | nothing
  /-- The expiry of the removal timer of the window's bay, between the lookup and the admission. -/
  | removal
  /-- The loss of the receive signal, between the append and the start of the request. -/
  | signalLoss
  /-- The expiry of the silence timer, between the append and the start of the request. -/
  | silenceExpiry
  /-- The expiry of the replay timer, between the append and the start of the request. -/
  | replayExpiry
  deriving DecidableEq, Repr

/-- What arrives at intake, and the event that it meets there. -/
structure Arrival (α : Type) where
  content : α
  meets : Meeting
  deriving DecidableEq, Repr

/-- A packet as intake meets it (R146, R150). The fields of a transaction packet are absent when its payload is
shorter than its header (R149). -/
inductive Packet
  | fetch     (fields : Option RequestFields)
  | store     (fields : Option StoreFields)
  | portFetch (fields : Option RequestFields)
  | portStore (fields : Option RequestFields)
  /-- A MGMT packet with both a management sequence number and a command code. -/
  | mgmt (seq code : Byte) (operands : List Byte)
  /-- A MGMT packet without both (R149). -/
  | mgmtShort
  /-- A payload of no request kind (R150). -/
  | unknownKind
  deriving DecidableEq, Repr

/-- The commands. The 16 management commands carry the packet's management sequence number and its operand bytes
(from byte 3, R191). -/
inductive Instr
  /-- POWER_ON_RESET: release of PWRON, with the four chassis position straps as they are sampled. -/
  | powerOnReset (straps : BitVec 4)
  /-- HOLD_OFF_EXPIRY -/
  | holdOffExpiry
  /-- TRAIN_INTERVAL_EXPIRY -/
  | trainIntervalExpiry
  /-- TRAINING_TIMER_EXPIRY -/
  | trainingTimerExpiry
  /-- TRAIN_RECEIVED: a good TRAIN frame with its ready flag and its link epoch. -/
  | trainReceived (ready : Bool) (epoch : Byte)
  /-- BAD_FRAME_RECEIVED: a bad or unreadable frame. -/
  | badFrameReceived
  /-- SEQUENCED_FRAME_RECEIVED: a good sequenced frame with its number and payload. -/
  | sequencedFrameReceived (seq : LinkSeq) (payload : Arrival (List Byte))
  /-- ACK_TIMER_EXPIRY -/
  | ackTimerExpiry
  /-- ACK_RECEIVED: a good ACK carrying n. -/
  | ackReceived (n : LinkSeq)
  /-- RESEND_RECEIVED: a good RESEND carrying n. -/
  | resendReceived (n : LinkSeq)
  /-- IDLE_RECEIVED -/
  | idleReceived
  /-- RECEIVE_SIGNAL_LOSS -/
  | receiveSignalLoss
  /-- SILENCE_TIMER_EXPIRY -/
  | silenceTimerExpiry
  /-- REPLAY_TIMER_EXPIRY -/
  | replayTimerExpiry
  /-- KEEPALIVE_EXPIRY -/
  | keepaliveExpiry
  /-- FETCH: a FETCH packet at intake. -/
  | fetch (packet : Arrival (Option RequestFields))
  /-- STORE: a STORE packet at intake. -/
  | store (packet : Arrival (Option StoreFields))
  /-- PORT_FETCH: a PORT_FETCH packet at intake. -/
  | portFetch (packet : Arrival (Option RequestFields))
  /-- PORT_STORE: a PORT_STORE packet at intake. -/
  | portStore (packet : Arrival (Option RequestFields))
  /-- UNKNOWN_PACKET_KIND: a payload whose kind byte is no request kind. -/
  | unknownPacketKind (kind : Byte) (body : List Byte)
  /-- BUS_GRANT -/
  | busGrant
  /-- CYCLE_MIN_LENGTH_EXPIRY, with WAIT, ERROR and the 16 data lines of the bay as they stand then. -/
  | cycleMinLengthExpiry (bay : BayId) (wait error : Bool) (lanes : BitVec 16)
  /-- WAIT_RELEASE, with ERROR and the 16 data lines of the bay as they stand then. -/
  | waitRelease (bay : BayId) (error : Bool) (lanes : BitVec 16)
  /-- ACCESS_TIMER_EXPIRY. `before` says what the bay's lifecycle controller takes ahead of the UNRESPONSIVE report,
  where the request that ends is the fourth timed-out one (R67; log 17). -/
  | accessTimerExpiry (bay : BayId) (before : BeforeReport)
  /-- PRESENCE_CONTACT_ASSERTED -/
  | presenceContactAsserted (bay : BayId) (contact : Contact)
  /-- PRESENCE_CONTACT_DEASSERTED -/
  | presenceContactDeasserted (bay : BayId) (contact : Contact)
  /-- STABLE_PRESENCE_EXPIRY -/
  | stablePresenceExpiry (bay : BayId)
  /-- SENSE_SETTLE_EXPIRY, with SENSE1 and SENSE0 as they are sampled. -/
  | senseSettleExpiry (bay : BayId) (sense1 sense0 : Bool)
  /-- PGOOD_ARRIVAL -/
  | pgoodArrival (bay : BayId)
  /-- POWER_GOOD_WAIT_EXPIRY -/
  | powerGoodWaitExpiry (bay : BayId)
  /-- POWER_SETTLE_EXPIRY -/
  | powerSettleExpiry (bay : BayId)
  /-- PGOOD_LOSS -/
  | pgoodLoss (bay : BayId)
  /-- MODULE_RESET_EXPIRY, with MRDY as it stands at the entry to PROFILING (R85). -/
  | moduleResetExpiry (bay : BayId) (mrdy : Bool)
  /-- MRDY_ARRIVAL -/
  | mrdyArrival (bay : BayId)
  /-- READY_TIMER_EXPIRY -/
  | readyTimerExpiry (bay : BayId)
  /-- ATTN_RISING_EDGE -/
  | attnRisingEdge (bay : BayId)
  /-- REMOVAL_TIMER_EXPIRY -/
  | removalTimerExpiry (bay : BayId)
  /-- QUIESCE_COMPLETION: the pools' report that the bay's list has become empty. -/
  | quiesceCompletion (bay : BayId)
  /-- GRANT_TIMER_EXPIRY -/
  | grantTimerExpiry
  /-- PLACE_GRANT -/
  | placeGrant
  /-- PLACE_MGMT_RESP -/
  | placeMgmtResp
  /-- PLACE_ANSWER -/
  | placeAnswer
  /-- PLACE_NOTICE -/
  | placeNotice
  /-- MGMT_SEQUENCE_REPLAY: a MGMT packet, whose code and operands are not examined when its number repeats. -/
  | mgmtSequenceReplay (seq code : Byte) (operands : List Byte)
  /-- UNKNOWN_COMMAND: a MGMT packet whose command code is not defined. -/
  | unknownCommand (seq code : Byte) (operands : List Byte)
  /-- IDENTIFY (01h) -/
  | identify (seq : Byte) (operands : List Byte)
  /-- WINDOW_WRITE (10h) -/
  | windowWrite (seq : Byte) (operands : List Byte)
  /-- WINDOW_READ (11h) -/
  | windowRead (seq : Byte) (operands : List Byte)
  /-- WINDOW_CLEAR (12h) -/
  | windowClear (seq : Byte) (operands : List Byte)
  /-- WINDOW_CLEAR_BAY (13h) -/
  | windowClearBay (seq : Byte) (operands : List Byte)
  /-- BAY_STATUS (20h) -/
  | bayStatus (seq : Byte) (operands : List Byte)
  /-- BAY_POLICY (21h) -/
  | bayPolicy (seq : Byte) (operands : List Byte)
  /-- POWER_ON (22h) -/
  | powerOn (seq : Byte) (operands : List Byte)
  /-- QUIESCE (23h) -/
  | quiesce (seq : Byte) (operands : List Byte)
  /-- BAY_RESTART (24h) -/
  | bayRestart (seq : Byte) (operands : List Byte)
  /-- EVENT_READ (30h) -/
  | eventRead (seq : Byte) (operands : List Byte)
  /-- EVENT_ENABLE (31h) -/
  | eventEnable (seq : Byte) (operands : List Byte)
  /-- EVENT_CLEAR (32h) -/
  | eventClear (seq : Byte) (operands : List Byte)
  /-- EVENT_INJECT (33h) -/
  | eventInject (seq : Byte) (operands : List Byte)
  /-- COUNTERS_READ (40h) -/
  | countersRead (seq : Byte) (operands : List Byte)
  /-- BRIDGE_RESET (7Fh) -/
  | bridgeReset (seq : Byte) (operands : List Byte)
  /-- RESET_TIMER_EXPIRY -/
  | resetTimerExpiry
  /-- FRAME_TRANSMISSION_END -/
  | frameTransmissionEnd
  /-- MALFORMED_MGMT_PACKET: a MGMT packet that ends after its kind byte, or after its sequence number. -/
  | malformedMgmtPacket (seq : Option Byte)
  deriving DecidableEq, Repr

end Sys2Proof
end

