-- ==== Sys2Proof/Config.lean ====
section
/-! DEFINITION. What the part fixes: pool sizes, identification codes, and the state that the spec leaves to
the outside at reset. The spec leaves no value of the bridge's own open, so there is no free value here. -/

namespace Sys2Proof.Config

/-- The Store Buffer holds 24 entries (R27), the size of the STORE pool (R119). -/
def storePoolSize : Nat := 24

/-- The Open-Request Table holds 32 entries (R29), the size of the REQUEST pool (R119). -/
def requestPoolSize : Nat := 32

/-- The MGMT pool has one credit (R121). -/
def mgmtPoolSize : Nat := 1

/-- The Window Table holds 32 entries (R1). -/
def windowCount : Nat := 32

/-- The replay list holds at most 16 frames (R185). -/
def replayCapacity : Nat := 16

/-- A source of notices waits behind at most 8 other packets (R127). -/
def starvationLimit : Nat := 8

/-- The vendor code of IDENTIFY (R167). -/
def vendorCode : BitVec 16 := 0x4D2B

/-- The part code of IDENTIFY (R167). -/
def partCode : BitVec 16 := 0x2406

/-- The revision of IDENTIFY (R167). -/
def revision : Byte := 3

/-- The access timer after either reset, in µs (R75, R95). -/
def accessTimerDefault : Nat := 32

/-- The chassis position of `State.reset`. DESIGN CHOICE (log 9), unsafe: the spec says the straps are sampled
at power-on reset (R167) and gives no value; the command POWER_ON_RESET carries the straps. -/
def resetStraps : BitVec 4 := 0

end Sys2Proof.Config
end

