-- ==== Sys2Proof/Machine/State.lean ====
section
/-! DEFINITION. The state of the bridge as plain data, and its value right after reset. Every item stands under the
name the manual gives it; the rule that names it is cited beside it. -/

namespace Sys2Proof.Machine

/-! ## Six of a kind -/

/-- One item for each of the six bays. -/
structure PerBay (α : Type) where
  b0 : α
  b1 : α
  b2 : α
  b3 : α
  b4 : α
  b5 : α
  deriving DecidableEq, Repr

/-! ## The Window Table (chapter 1) -/

/-- The module space a window reaches (R2). -/
inductive Space
  | bulk | profile | port
  deriving DecidableEq, Repr

/-- A data width, 8 or 16 (R1). -/
inductive Width
  | w8 | w16
  deriving DecidableEq, Repr

/-- The protect field of a window (R1). -/
inductive Protect
  | writable | readOnly
  deriving DecidableEq, Repr

/-- A window entry (R1). Sizes are counted in granules of the space's family. -/
structure Window where
  valid        : Bool
  bay          : BayId
  space        : Space
  upstreamBase : Nat
  granules     : Nat
  bayBase      : Nat
  width        : Width
  waitClass    : Fin 4
  protect      : Protect
  deriving DecidableEq, Repr

/-! ## Request records (chapter 2) -/

/-- An answer status (R117). `protectedWindow` is the manual's PROTECTED. -/
inductive AnswerStatus
  | ok | unmapped | protectedWindow | noModule | notReady | quiesced | bayTimeout | moduleError | gone | bayFault
  deriving DecidableEq, Repr

/-- The kind of a non-posted request (R29). -/
inductive RequestKind
  | fetch | portFetch | portStore
  deriving DecidableEq, Repr

/-- The part of a translation snapshot that an entry keeps (R12). -/
structure Snapshot where
  bay        : BayId
  space      : Space
  bayAddress : Nat
  width      : Width
  waitClass  : Fin 4
  deriving DecidableEq, Repr

/-- The states of a Store Buffer entry in use (R28). A FREE entry is not listed (log 7). -/
inductive StoreState
  | queued | active
  deriving DecidableEq, Repr

/-- A Store Buffer entry in use (R27). -/
structure StoreEntry where
  state     : StoreState
  snap      : Snapshot
  length    : Nat
  data      : List Byte
  bytesDone : Nat
  deriving DecidableEq, Repr

/-- The states of an Open-Request Table entry in use (R30). A FREE entry is not listed (log 7). -/
inductive OpenState
  | queued | active | orphaned | answerReady
  deriving DecidableEq, Repr

/-- An Open-Request Table entry in use (R29). The snapshot is absent for an UNMAPPED refusal. -/
structure OpenEntry where
  state     : OpenState
  kind      : RequestKind
  tag       : BitVec 6
  snap      : Option Snapshot
  length    : Nat
  data      : List Byte
  bytesDone : Nat
  status    : Option AnswerStatus
  deriving DecidableEq, Repr

/-- What a bay list holds (R35): entries of the Store Buffer and of the Open-Request Table. -/
inductive Entry
  | store   (e : StoreEntry)
  | request (e : OpenEntry)
  deriving DecidableEq, Repr

/-! ## The Bay Access Engine and the bay bus (chapter 3) -/

/-- What a cycle holds once it has started (R50, R60, R62): the access timer value it took, its minimum length, and
whether the minimum length has passed. -/
structure CycleRun where
  accessTimer : Nat
  minLengthNs : Nat
  minElapsed  : Bool
  deriving DecidableEq, Repr

/-- The cycle that is ready or under way (R50). `wide` is the size 16 bits; `run` is absent until the start. -/
structure Cycle where
  address : Nat
  space   : Space
  wide    : Bool
  write   : Bool
  run     : Option CycleRun
  deriving DecidableEq, Repr

/-- The engine state (R50). -/
inductive EngineState
  | idle | awaitingBus | inCycle
  deriving DecidableEq, Repr

/-- What the engine serves (R50); a request is the head of its bay list. -/
inductive Work
  | none | request | profileRead
  deriving DecidableEq, Repr

/-- A Bay Access Engine (R50). -/
structure Engine where
  state              : EngineState
  work               : Work
  effectiveWidth     : Option Width
  effectiveWaitClass : Option (Fin 4)
  cycle              : Option Cycle
  stopAfterCycle     : Bool
  timeoutStreak      : Nat
  profileBytes       : List Byte
  deriving DecidableEq, Repr

/-- The lines a granted cycle drives (R56): the bay whose select is asserted, the address, the space select, the high
byte-lane select (the low one is always asserted), the strobe (write or read), and the bytes on the data lanes of a
write, low lane first. -/
structure BusCycle where
  bay        : BayId
  address    : BitVec 24
  space      : Space
  highSelect : Bool
  write      : Bool
  lanes      : List Byte
  deriving DecidableEq, Repr

/-- The bay bus and its arbiter (R56, R57): the cycle on the bus, or a free bus; and the round-robin pointer. -/
structure Bus where
  driven  : Option BusCycle
  pointer : BayId
  deriving DecidableEq, Repr

/-! ## The Bay Lifecycle Controller (chapters 4 and 5) -/

/-- The eleven bay states (R73). -/
inductive BayState
  | empty | settling | identifying | unpowered | powering | resetting | profiling | ready | quiescing | quiesced
  | faulted
  deriving DecidableEq, Repr

/-- The two phases of POWERING (R82). -/
inductive PowerPhase
  | awaitingPgood | settlingPower
  deriving DecidableEq, Repr

/-- The module class (R79). -/
inductive ModuleClass
  | both | lOnly | hOnly | unrecognized
  deriving DecidableEq, Repr

/-- The supply class: the supply whose enable is on (R76). -/
inductive Supply
  | none | l | h
  deriving DecidableEq, Repr

/-- Why a bay is FAULTED (R91). -/
inductive FaultReason
  | unrecognized | powerFail | readyTimeout | profileBad | unresponsive
  deriving DecidableEq, Repr

/-- The facts kept from a valid profile header (R88). -/
structure ProfileSummary where
  kind               : BitVec 16
  widthCapability    : Width
  minWaitClass       : Fin 4
  attentionSupported : Bool
  serial             : List Byte
  deriving DecidableEq, Repr

/-- windows_on_removal (R95). -/
inductive RemovalPolicy
  | keep | clear
  deriving DecidableEq, Repr

/-- The bay policy (R95); the access timer in µs. -/
structure Policy where
  autoPower        : Bool
  windowsOnRemoval : RemovalPolicy
  accessTimer      : Nat
  deriving DecidableEq, Repr

/-- The lifecycle timers (R74): stable presence 50 ms, sense settle 1 ms, power-good wait 20 ms, power settle 10 ms,
module reset 2 ms, ready 500 ms. -/
inductive LifecycleTimer
  | stablePresence | senseSettle | powerGoodWait | powerSettle | moduleReset | ready
  deriving DecidableEq, Repr

/-- The lamp (R94). -/
inductive Lamp
  | off | steady | blinking
  deriving DecidableEq, Repr

/-- The quiesce mode (R108). -/
inductive QuiesceMode
  | drain | abandon
  deriving DecidableEq, Repr

/-- The removal filter (R99, R100). Its removal timer of 1 ms runs exactly while the filter is TIMING. -/
inductive Filter
  | idle | timing
  deriving DecidableEq, Repr

/-- A Bay Lifecycle Controller (R73, R99, R108) with the lines it drives: the supply enables (by the supply class,
R76), MRST and LAMP. The lifecycle timer is absent while it is stopped. -/
structure Lifecycle where
  state         : BayState
  phase         : Option PowerPhase
  moduleClass   : Option ModuleClass
  supply        : Supply
  faultReason   : Option FaultReason
  summary       : Option ProfileSummary
  policy        : Policy
  timer         : Option LifecycleTimer
  mrdySeen      : Bool
  lamp          : Lamp
  mrstAsserted  : Bool
  unanswered    : Nat
  filter        : Filter
  quiesceMode   : Option QuiesceMode
  deriving DecidableEq, Repr

/-- One bay: its controller, its engine, its bay list (R35, head first), and the input levels that rules read at
moments other than their own change: the presence contacts and PGOOD (log 8). -/
structure Bay where
  life   : Lifecycle
  engine : Engine
  list   : List Entry
  presA  : Bool
  presB  : Bool
  pgood  : Bool
  deriving DecidableEq, Repr

/-! ## The Notice Unit (chapter 7) -/

/-- The event kinds of a bay (R131). -/
inductive BayKind
  | inserted | removed | ready | fault | storeDropped | attention | quiesced
  deriving DecidableEq, Repr

/-- The event kinds of BRIDGE (R131). -/
inductive BridgeKind
  | linkProtocol | unmappedStore | linkRestored
  deriving DecidableEq, Repr

/-- The seven sources of events (R131). -/
inductive Source
  | bay (b : BayId) | bridge
  deriving DecidableEq, Repr

/-- One of the 45 pairs of a source and a kind of that source (R132). -/
inductive EventId
  | bay (b : BayId) (k : BayKind)
  | bridge (k : BridgeKind)
  deriving DecidableEq, Repr

/-- The reasons an event may carry (R131, R191). `protectedWindow` is the manual's PROTECTED. -/
inductive Reason
  | unrecognized | powerFail | readyTimeout | profileBad | unresponsive
  | noModule | notReady | quiesced | protectedWindow | bayTimeout | moduleError | gone | bayFault
  | overrun | malformed | tagInUse
  | injected
  deriving DecidableEq, Repr

/-- An event record (R132). -/
structure EventRecord where
  flag        : Bool
  count       : Nat
  firstReason : Option Reason
  announced   : Bool
  enable      : Bool
  deriving DecidableEq, Repr

/-- The event records of a bay. -/
structure BayRecords where
  inserted     : EventRecord
  removed      : EventRecord
  ready        : EventRecord
  fault        : EventRecord
  storeDropped : EventRecord
  attention    : EventRecord
  quiesced     : EventRecord
  deriving DecidableEq, Repr

/-- The event records of BRIDGE. -/
structure BridgeRecords where
  linkProtocol  : EventRecord
  unmappedStore : EventRecord
  linkRestored  : EventRecord
  deriving DecidableEq, Repr

/-- A notice record (R136): a source and the set of its raised kinds, one bit each (R191). -/
structure NoticeRecord where
  source : Source
  kinds  : BitVec 8
  deriving DecidableEq, Repr

/-- The Notice Unit (R132, R136, R137, R144). -/
structure NoticeUnit where
  bays    : PerBay BayRecords
  bridge  : BridgeRecords
  queue   : List NoticeRecord
  nextSeq : Byte
  firstUp : Bool
  deriving DecidableEq, Repr

/-! ## The credit ledger (chapters 6 and 8) -/

/-- The three credit pools (R119). -/
inductive Pool
  | store | request | mgmt
  deriving DecidableEq, Repr

/-- The counts of one pool (R119). -/
structure Credit where
  outstanding   : Nat
  pendingReturn : Nat
  deriving DecidableEq, Repr

/-- The credit ledger (R119, R124): the grant timer, whether it has expired since the last GRANT placement, and whether
the seed GRANT of this entry to UP has still to be placed. -/
structure Ledger where
  store        : Credit
  request      : Credit
  mgmt         : Credit
  grantTimer   : Bool
  grantExpired : Bool
  seedDue      : Bool
  deriving DecidableEq, Repr

/-! ## The Management Unit (chapter 9) -/

/-- A management status (R164). -/
inductive MgmtStatus
  | done | badCommand | badOperand | overlap | noModule | wrongState | supplyMismatch | already
  deriving DecidableEq, Repr

/-- A MGMT_RESP (R164), its results as the bytes of the wire (R191). -/
structure MgmtResp where
  seq     : Byte
  status  : MgmtStatus
  results : List Byte
  deriving DecidableEq, Repr

/-- The management context (R161). `last` holds last_seq (its `seq`) and last_response together. `resetFrame` is the
frame of the first placement of the response that answers the pending BRIDGE_RESET (R174). -/
structure Mgmt where
  last         : Option MgmtResp
  busy         : Bool
  resetPending : Bool
  resetTimer   : Bool
  resetFrame   : Option LinkSeq
  deriving DecidableEq, Repr

/-! ## The Trunk Link Unit (chapter 10) -/

/-- The packets the bridge sends (R191). -/
inductive UpPacket
  | answer (tag : BitVec 6) (status : AnswerStatus) (data : List Byte)
  | grant (store request mgmt : Nat)
  | notice (seq : Byte) (source : Source) (kinds : BitVec 8)
  | mgmtResp (response : MgmtResp)
  deriving DecidableEq, Repr

/-- A sequenced frame of the replay list (R185). -/
structure Frame where
  seq    : LinkSeq
  packet : UpPacket
  deriving DecidableEq, Repr

/-- A frame the transmitter sends (R191). -/
inductive WireFrame
  | train (ready : Bool) (epoch : Byte)
  | ack (n : LinkSeq)
  | resend (n : LinkSeq)
  | idle
  | sequenced (frame : Frame)
  deriving DecidableEq, Repr

/-- The transmitter (R185): the frame under transmission, the control frames that wait for its end, what remains of a
retransmission, and the placed frames that wait for their first sending. -/
structure Transmitter where
  current    : Option WireFrame
  control    : List WireFrame
  retransmit : List Frame
  fresh      : List Frame
  deriving DecidableEq, Repr

/-- The link state (R177). -/
inductive LinkState
  | down | training | up
  deriving DecidableEq, Repr

/-- The link timers (R177): whether each runs. Hold-off 1 ms, training 5 ms, TRAIN interval 10 µs, ACK 20 µs, replay
200 µs, keepalive 100 µs, silence 1 ms. -/
structure LinkTimers where
  holdOff       : Bool
  training      : Bool
  trainInterval : Bool
  ack           : Bool
  replay        : Bool
  keepalive     : Bool
  silence       : Bool
  deriving DecidableEq, Repr

/-- The six link counters (R190). -/
structure LinkCounters where
  checkErrors       : Nat
  resendsSent       : Nat
  resendsReceived   : Nat
  replayExhaustions : Nat
  linkDowns         : Nat
  overruns          : Nat
  deriving DecidableEq, Repr

/-- The Trunk Link Unit (R177). -/
structure LinkUnit where
  state           : LinkState
  epoch           : Byte
  receiveExpected : LinkSeq
  transmitNext    : LinkSeq
  replay          : List Frame
  attempts        : Nat
  ackOwed         : Nat
  resendSent      : Bool
  trainsInRow     : Nat
  trainsSent      : Nat
  trainSeen       : Bool
  timers          : LinkTimers
  counters        : LinkCounters
  tx              : Transmitter
  deriving DecidableEq, Repr

/-! ## The bridge -/

/-- The state of the bridge, and the queue of the commands that wait (log 1). -/
structure State where
  link        : LinkUnit
  ledger      : Ledger
  starvation  : Nat
  windows     : Vector Window 32
  bays        : PerBay Bay
  answerOrder : List OpenEntry
  bus         : Bus
  notice      : NoticeUnit
  mgmt        : Mgmt
  straps      : BitVec 4
  pending     : List Instr
  deriving DecidableEq, Repr

/-- No rule of the spec stops the bridge (log 24): nobody raises a fault, which is safe. -/
inductive Fault
  deriving DecidableEq, Repr

/-- Why a command has no meaning here. -/
inductive Refusal
  /-- Raised by an arm of `exec` for a command that the model does not cover yet; safe. No arm raises it. -/
  | notModelled (mnemonic : String)
  deriving DecidableEq, Repr

/-! ## Reset -/

/-- A window entry after either reset (R3). -/
def Window.reset : Window :=
  { valid := false, bay := .b0, space := .bulk, upstreamBase := 0, granules := 1, bayBase := 0, width := .w8,
    waitClass := 0, protect := .writable }

/-- An engine after either reset (R50). -/
def Engine.reset : Engine :=
  { state := .idle, work := .none, effectiveWidth := none, effectiveWaitClass := none, cycle := none,
    stopAfterCycle := false, timeoutStreak := 0, profileBytes := [] }

/-- The bay policy after either reset (R75). -/
def Policy.reset : Policy :=
  { autoPower := false, windowsOnRemoval := .keep, accessTimer := Config.accessTimerDefault }

/-- A lifecycle controller after either reset (R75, R99, R108). -/
def Lifecycle.reset : Lifecycle :=
  { state := .empty, phase := none, moduleClass := none, supply := .none, faultReason := none, summary := none,
    policy := .reset, timer := none, mrdySeen := false, lamp := .off, mrstAsserted := true, unanswered := 0,
    filter := .idle, quiesceMode := none }

/-- A bay after power-on reset, with no module seated. DESIGN CHOICE (log 8), unsafe: the levels of the contacts and of
PGOOD come from outside. -/
def Bay.reset : Bay :=
  { life := .reset, engine := .reset, list := [], presA := false, presB := false, pgood := false }

/-- An event record after either reset (R133). -/
def EventRecord.reset : EventRecord :=
  { flag := false, count := 0, firstReason := none, announced := false, enable := false }

/-- The event records of a bay after either reset (R133). -/
def BayRecords.reset : BayRecords :=
  { inserted := .reset, removed := .reset, ready := .reset, fault := .reset, storeDropped := .reset,
    attention := .reset, quiesced := .reset }

/-- The event records of BRIDGE after either reset (R133). -/
def BridgeRecords.reset : BridgeRecords :=
  { linkProtocol := .reset, unmappedStore := .reset, linkRestored := .reset }

/-- The Notice Unit after either reset (R133). -/
def NoticeUnit.reset : NoticeUnit :=
  { bays := ⟨.reset, .reset, .reset, .reset, .reset, .reset⟩, bridge := .reset, queue := [], nextSeq := 0,
    firstUp := true }

/-- The credit ledger after either reset (R119). -/
def Ledger.reset : Ledger :=
  { store := ⟨0, 0⟩, request := ⟨0, 0⟩, mgmt := ⟨0, 0⟩, grantTimer := false, grantExpired := false, seedDue := false }

/-- The management context after either reset (R161). -/
def Mgmt.reset : Mgmt :=
  { last := none, busy := false, resetPending := false, resetTimer := false, resetFrame := none }

/-- A transmitter that sends nothing (R178). -/
def Transmitter.idle : Transmitter := { current := none, control := [], retransmit := [], fresh := [] }

/-- The link timers after either reset (R177): the hold-off alone runs. -/
def LinkTimers.reset : LinkTimers :=
  { holdOff := true, training := false, trainInterval := false, ack := false, replay := false, keepalive := false,
    silence := false }

/-- The link counters after either reset (R190). -/
def LinkCounters.reset : LinkCounters :=
  { checkErrors := 0, resendsSent := 0, resendsReceived := 0, replayExhaustions := 0, linkDowns := 0, overruns := 0 }

/-- The Trunk Link Unit after power-on reset (R177). -/
def LinkUnit.reset : LinkUnit :=
  { state := .down, epoch := 0, receiveExpected := 0, transmitNext := 0, replay := [], attempts := 0, ackOwed := 0,
    resendSent := false, trainsInRow := 0, trainsSent := 0, trainSeen := false, timers := .reset, counters := .reset,
    tx := .idle }

/-- The machine right after power-on reset: R3, R49, R50, R57, R75, R99, R119, R127, R133, R161, R177. -/
def State.reset : State :=
  { link := .reset, ledger := .reset, starvation := 0, windows := Vector.replicate 32 Window.reset,
    bays := ⟨.reset, .reset, .reset, .reset, .reset, .reset⟩, answerOrder := [],
    bus := { driven := none, pointer := .b0 }, notice := .reset, mgmt := .reset, straps := Config.resetStraps,
    pending := [] }

end Sys2Proof.Machine
end

