-- ==== Sys2Proof/Machine/Flags.lean ====
section
/-! DEFINITION. The event flags: the event records of the Notice Unit, raising and merging (R134, R135), announcing
(R136), enabling, clearing and reading (R138 to R141), and the effects of the link on them (R143, R144). -/

namespace Sys2Proof

/-! ## The bays -/

/-- The bays in order. -/
def BayId.all : List BayId := [.b0, .b1, .b2, .b3, .b4, .b5]

/-- The number of a bay. -/
def BayId.toNat : BayId → Nat
  | .b0 => 0
  | .b1 => 1
  | .b2 => 2
  | .b3 => 3
  | .b4 => 4
  | .b5 => 5

/-- The bay of a number, where there is one. -/
def BayId.ofNat? : Nat → Option BayId
  | 0 => some .b0
  | 1 => some .b1
  | 2 => some .b2
  | 3 => some .b3
  | 4 => some .b4
  | 5 => some .b5
  | _ => none

/-- The bay after a bay, wrapping from 5 to 0 (R57). -/
def BayId.next : BayId → BayId
  | .b0 => .b1
  | .b1 => .b2
  | .b2 => .b3
  | .b3 => .b4
  | .b4 => .b5
  | .b5 => .b0

end Sys2Proof

namespace Sys2Proof.Machine

/-! ## Six of a kind -/

/-- The item of one bay. -/
def PerBay.get {α : Type} (p : PerBay α) : BayId → α
  | .b0 => p.b0
  | .b1 => p.b1
  | .b2 => p.b2
  | .b3 => p.b3
  | .b4 => p.b4
  | .b5 => p.b5

/-- Replace the item of one bay. -/
def PerBay.set {α : Type} (p : PerBay α) (b : BayId) (x : α) : PerBay α :=
  match b with
  | .b0 => { p with b0 := x }
  | .b1 => { p with b1 := x }
  | .b2 => { p with b2 := x }
  | .b3 => { p with b3 := x }
  | .b4 => { p with b4 := x }
  | .b5 => { p with b5 := x }

/-- Apply a function to every item. -/
def PerBay.map {α β : Type} (f : α → β) (p : PerBay α) : PerBay β :=
  ⟨f p.b0, f p.b1, f p.b2, f p.b3, f p.b4, f p.b5⟩

/-- Apply a function of the bay's name to every item. -/
def PerBay.mapWithId {α β : Type} (f : BayId → α → β) (p : PerBay α) : PerBay β :=
  ⟨f .b0 p.b0, f .b1 p.b1, f .b2 p.b2, f .b3 p.b3, f .b4 p.b4, f .b5 p.b5⟩

/-- The items in bay order. -/
def PerBay.toList {α : Type} (p : PerBay α) : List α := [p.b0, p.b1, p.b2, p.b3, p.b4, p.b5]

/-- A saturating count: one more, at most the largest value (00_scope.md, Conventions). -/
def satSucc (largest n : Nat) : Nat := if n < largest then n + 1 else n

/-! ## Kinds, sources and records -/

/-- The record of a bay kind. -/
def BayRecords.get (r : BayRecords) : BayKind → EventRecord
  | .inserted => r.inserted
  | .removed => r.removed
  | .ready => r.ready
  | .fault => r.fault
  | .storeDropped => r.storeDropped
  | .attention => r.attention
  | .quiesced => r.quiesced

/-- Replace the record of a bay kind. -/
def BayRecords.set (r : BayRecords) (k : BayKind) (e : EventRecord) : BayRecords :=
  match k with
  | .inserted => { r with inserted := e }
  | .removed => { r with removed := e }
  | .ready => { r with ready := e }
  | .fault => { r with fault := e }
  | .storeDropped => { r with storeDropped := e }
  | .attention => { r with attention := e }
  | .quiesced => { r with quiesced := e }

/-- The record of a BRIDGE kind. -/
def BridgeRecords.get (r : BridgeRecords) : BridgeKind → EventRecord
  | .linkProtocol => r.linkProtocol
  | .unmappedStore => r.unmappedStore
  | .linkRestored => r.linkRestored

/-- Replace the record of a BRIDGE kind. -/
def BridgeRecords.set (r : BridgeRecords) (k : BridgeKind) (e : EventRecord) : BridgeRecords :=
  match k with
  | .linkProtocol => { r with linkProtocol := e }
  | .unmappedStore => { r with unmappedStore := e }
  | .linkRestored => { r with linkRestored := e }

/-- The bit of a bay kind in a set of kinds (R191). -/
def BayKind.bit : BayKind → Nat
  | .inserted => 0
  | .removed => 1
  | .ready => 2
  | .fault => 3
  | .storeDropped => 4
  | .attention => 5
  | .quiesced => 6

/-- The bit of a BRIDGE kind in a set of kinds (R191). -/
def BridgeKind.bit : BridgeKind → Nat
  | .linkProtocol => 0
  | .unmappedStore => 1
  | .linkRestored => 2

/-- The source of an event. -/
def EventId.source : EventId → Source
  | .bay b _ => .bay b
  | .bridge _ => .bridge

/-- The bit of an event's kind. -/
def EventId.bit : EventId → Nat
  | .bay _ k => k.bit
  | .bridge k => k.bit

/-- The set that holds an event's kind alone. -/
def EventId.mask (e : EventId) : BitVec 8 := 1#8 <<< e.bit

/-- The events of a source, in the order of the table of R131, which is the bit order of R191. -/
def Source.events : Source → List EventId
  | .bay b => [.bay b .inserted, .bay b .removed, .bay b .ready, .bay b .fault, .bay b .storeDropped,
               .bay b .attention, .bay b .quiesced]
  | .bridge => [.bridge .linkProtocol, .bridge .unmappedStore, .bridge .linkRestored]

/-- The sources in the order bay 0 to bay 5, then BRIDGE (R144). -/
def Source.all : List Source :=
  [.bay .b0, .bay .b1, .bay .b2, .bay .b3, .bay .b4, .bay .b5, .bridge]

/-- The 45 events (R132). -/
def EventId.all : List EventId := Source.all.flatMap Source.events

/-- The kinds a source has, as a set (R131). -/
def Source.kinds : Source → BitVec 8
  | .bay _ => 0x7F
  | .bridge => 0x07

/-- A set of kinds holds an event's kind. -/
def EventId.within (e : EventId) (kinds : BitVec 8) : Bool := kinds.getLsbD e.bit

/-- The event record of a source and kind (R132). -/
def NoticeUnit.record (n : NoticeUnit) : EventId → EventRecord
  | .bay b k => (n.bays.get b).get k
  | .bridge k => n.bridge.get k

/-- Replace the event record of a source and kind. -/
def NoticeUnit.setRecord (n : NoticeUnit) (e : EventId) (r : EventRecord) : NoticeUnit :=
  match e with
  | .bay b k => { n with bays := n.bays.set b ((n.bays.get b).set k r) }
  | .bridge k => { n with bridge := n.bridge.set k r }

/-! ## The notice queue -/

/-- Add a kind to the record of its source in the queue, in place; or create the record at the tail (R134, R136). -/
def addToQueue (e : EventId) : List NoticeRecord → List NoticeRecord
  | [] => [{ source := e.source, kinds := e.mask }]
  | r :: rest => if r.source = e.source then { r with kinds := r.kinds ||| e.mask } :: rest else r :: addToQueue e rest

/-- Take a kind out of the record of its source; a record left with no kinds leaves the queue (R136, R139). -/
def retractFromQueue (e : EventId) : List NoticeRecord → List NoticeRecord
  | [] => []
  | r :: rest =>
    if r.source = e.source then
      if r.kinds &&& ~~~e.mask = 0#8 then rest else { r with kinds := r.kinds &&& ~~~e.mask } :: rest
    else r :: retractFromQueue e rest

/-- Announce an event: it joins its source's notice record and announced becomes yes (R134, R138, R144). -/
def NoticeUnit.announce (n : NoticeUnit) (e : EventId) : NoticeUnit :=
  let n := n.setRecord e { n.record e with announced := true }
  { n with queue := addToQueue e n.queue }

/-- Raise an event: with the flag clear, R134; with the flag set, R135. -/
def NoticeUnit.raise (n : NoticeUnit) (e : EventId) (reason : Option Reason) : NoticeUnit :=
  let r := n.record e
  if r.flag then
    n.setRecord e { r with count := satSucc 255 r.count }
  else
    let n := n.setRecord e { r with flag := true, count := 1, firstReason := reason, announced := false }
    if r.enable then n.announce e else n

/-! ## The management commands on events -/

/-- EVENT_ENABLE of one kind (R138): set its enable; a kind turned on that is set and unannounced is announced. -/
def NoticeUnit.enableOne (n : NoticeUnit) (e : EventId) (on : Bool) : NoticeUnit :=
  let r := n.record e
  let n := n.setRecord e { r with enable := on }
  if on && !r.enable && r.flag && !r.announced then n.announce e else n

/-- EVENT_ENABLE of a source with a set of kinds (R138). -/
def NoticeUnit.enableKinds (n : NoticeUnit) (source : Source) (kinds : BitVec 8) : NoticeUnit :=
  source.events.foldl (fun n e => n.enableOne e (e.within kinds)) n

/-- EVENT_CLEAR of one kind (R139). -/
def NoticeUnit.clearOne (n : NoticeUnit) (e : EventId) : NoticeUnit :=
  let n := n.setRecord e
    { n.record e with flag := false, count := 0, firstReason := none, announced := false }
  { n with queue := retractFromQueue e n.queue }

/-- EVENT_CLEAR of a source with a set of kinds (R139). -/
def NoticeUnit.clearKinds (n : NoticeUnit) (source : Source) (kinds : BitVec 8) : NoticeUnit :=
  (source.events.filter (fun e => e.within kinds)).foldl NoticeUnit.clearOne n

/-! ## The link -/

/-- The link has left UP: announced becomes no for every kind whose flag is set (R143). -/
def NoticeUnit.forgetAnnounced (n : NoticeUnit) : NoticeUnit :=
  EventId.all.foldl
    (fun n e => if (n.record e).flag then n.setRecord e { n.record e with announced := false } else n) n

/-- Announce an event that is set, enabled and not announced (R144, step 1). A kind that was disabled while it stood in a
queued record stays in that record, and its announced stays no at the return and at the placement, since step 1 names
enabled kinds alone (DESIGN CHOICE, log 35). -/
def NoticeUnit.announceIfDue (n : NoticeUnit) (e : EventId) : NoticeUnit :=
  let r := n.record e
  if r.flag && r.enable && !r.announced then n.announce e else n

/-- The link has reached UP: re-announce in the order of the sources, then raise LINK_RESTORED unless this is the first
UP after a reset (R144). -/
def NoticeUnit.linkUp (n : NoticeUnit) : NoticeUnit :=
  let n := EventId.all.foldl NoticeUnit.announceIfDue n
  if n.firstUp then { n with firstUp := false } else n.raise (.bridge .linkRestored) none

end Sys2Proof.Machine
end

