-- ==== Sys2Proof/Machine/Windows.lean ====
section
/-! DEFINITION. The Window Table: families and granules (R2), legality (R17), overlap (R18), lookup and translation (R4,
R5, R10, R12, R13), and the changes of the table (R19, R21, R22, R23). -/

namespace Sys2Proof.Machine

/-- A space belongs to the port family (R2). -/
def Space.isPort : Space → Bool
  | .port => true
  | .bulk | .profile => false

/-- The granule of a space's family in bytes: 4 KiB or 16 (R2). -/
def Space.granule (s : Space) : Nat := if s.isPort then 16 else 4096

/-- The size of a module space in bytes: 16 MiB, 64 KiB, 64 KiB (R2). -/
def Space.size : Space → Nat
  | .bulk => 2 ^ 24
  | .profile => 2 ^ 16
  | .port => 2 ^ 16

/-- The size of the upstream space of a space's family: 2^48 or 2^32 bytes (R2, R17). -/
def Space.upstreamSize (s : Space) : Nat := if s.isPort then 2 ^ 32 else 2 ^ 48

/-- The size of a window in bytes (R1). -/
def Window.size (w : Window) : Nat := w.granules * w.space.granule

/-- The checks of R17 that its typed fields leave: size, alignment and the two ends. -/
def Window.legal (w : Window) : Bool :=
  decide (1 ≤ w.granules) && decide (w.granules ≤ 4096) &&
  decide (w.upstreamBase % w.space.granule = 0) &&
  decide (w.upstreamBase + w.size ≤ w.space.upstreamSize) &&
  decide (w.bayBase % w.space.granule = 0) &&
  decide (w.bayBase + w.size ≤ w.space.size)

/-- The window covers an upstream address (R5). -/
def Window.covers (w : Window) (address : Nat) : Bool :=
  decide (w.upstreamBase ≤ address) && decide (address < w.upstreamBase + w.size)

/-- The window takes part in a lookup of a family (R4). -/
def Window.takesPart (w : Window) (port : Bool) : Bool := w.valid && (w.space.isPort == port)

/-- Two ranges of one family share an address when each one's base is below the other's end (R18). -/
def Window.overlaps (w v : Window) : Bool :=
  (w.space.isPort == v.space.isPort) && decide (w.upstreamBase < v.upstreamBase + v.size) &&
  decide (v.upstreamBase < w.upstreamBase + w.size)

/-- The Window Table of 32 entries (R1). -/
abbrev WindowTable := Vector Window 32

/-- Apply a function to every entry. -/
def mapWindows (f : Window → Window) (t : WindowTable) : WindowTable := ⟨⟨t.toList.map f⟩, by simp⟩

/-- The first entry that takes part in the family's lookup and covers the address (R4, R5). At most one does while the
table keeps R18. -/
def lookupWindow (t : WindowTable) (port : Bool) (address : Nat) : Option Window :=
  t.toList.find? (fun w => w.takesPart port && w.covers address)

/-- The new window would overlap a valid entry of another index (R18). -/
def overlapsOther (t : WindowTable) (index : Fin 32) (w : Window) : Bool :=
  t.toList.zipIdx.any (fun p => decide (p.2 ≠ index.val) && p.1.valid && w.overlaps p.1)

/-- The translation snapshot of a hit (R10, R12). -/
def Window.translate (w : Window) (address : Nat) : Snapshot :=
  { bay := w.bay, space := w.space, bayAddress := address - w.upstreamBase + w.bayBase, width := w.width,
    waitClass := w.waitClass }

/-- Set valid to no in one entry (R21). -/
def clearWindow (t : WindowTable) (index : Fin 32) : WindowTable := t.set index { t[index] with valid := false }

/-- An entry is a valid window of the bay. -/
def Window.servesBay (b : BayId) (w : Window) : Bool := w.valid && decide (w.bay = b)

/-- Set valid to no in every valid window of a bay, as one change (R22, R23). -/
def clearWindowsOf (t : WindowTable) (b : BayId) : WindowTable :=
  mapWindows (fun w => if w.servesBay b then { w with valid := false } else w) t

/-- The number of valid windows of a bay (R22). -/
def countWindowsOf (t : WindowTable) (b : BayId) : Nat := (t.toList.filter (Window.servesBay b)).length

end Sys2Proof.Machine
end

