-- ==== Sys2Proof/Machine/Operands.lean ====
section
/-! DEFINITION. What the bytes of packets and of management operands say: the packets a controller sends (R146, R191),
the form check of intake (R149), and the operand lists of the management commands (R165, R166, R191). -/

namespace Sys2Proof.Machine

/-! ## Bytes -/

/-- The number that bytes spell, low-order byte first (R191). -/
def leNat : List Byte → Nat
  | [] => 0
  | b :: rest => b.toNat + 256 * leNat rest

/-- `k` bytes of a number, low-order byte first (R191). -/
def leBytes : Nat → Nat → List Byte
  | 0, _ => []
  | k + 1, n => BitVec.ofNat 8 n :: leBytes k (n / 256)

/-! ## Controller-to-bridge packets -/

/-- The fields of a FETCH, PORT_FETCH or PORT_STORE after its kind byte; absent when the header is not whole. -/
def requestFieldsOf : List Byte → Option RequestFields
  | tag :: length :: a0 :: a1 :: a2 :: a3 :: a4 :: a5 :: a6 :: a7 :: data =>
    some { tag, length, address := BitVec.ofNat 64 (leNat [a0, a1, a2, a3, a4, a5, a6, a7]), data }
  | _ => none

/-- The fields of a STORE after its kind byte; absent when the header is not whole. -/
def storeFieldsOf : List Byte → Option StoreFields
  | length :: a0 :: a1 :: a2 :: a3 :: a4 :: a5 :: a6 :: a7 :: data =>
    some { length, address := BitVec.ofNat 64 (leNat [a0, a1, a2, a3, a4, a5, a6, a7]), data }
  | _ => none

/-- A MGMT packet after its kind byte. -/
def mgmtPacketOf : List Byte → Packet
  | seq :: code :: operands => .mgmt seq code operands
  | _ => .mgmtShort

/-- The packet that a sequenced frame's payload holds (R191): byte 0 is the packet kind. -/
def packetOf : List Byte → Packet
  | [] => .unknownKind
  | kind :: body =>
    if kind = 0x01#8 then .fetch (requestFieldsOf body)
    else if kind = 0x02#8 then .store (storeFieldsOf body)
    else if kind = 0x03#8 then .portFetch (requestFieldsOf body)
    else if kind = 0x04#8 then .portStore (requestFieldsOf body)
    else if kind = 0x05#8 then mgmtPacketOf body
    else .unknownKind

/-! ## The form check of intake (R149) -/

/-- The kind belongs to the port family (R2). -/
def RequestKind.isPort : RequestKind → Bool
  | .fetch => false
  | .portFetch | .portStore => true

/-- The block a request may not cross, which is also its largest length: 64 bytes, or 4 for the port family (R149). -/
def blockSize (port : Bool) : Nat := if port then 4 else 64

/-- Address and length are in range and the request stays in its block (R149). -/
def rangeWellFormed (port : Bool) (address length : Nat) : Bool :=
  decide (address < if port then 2 ^ 32 else 2 ^ 48) && decide (1 ≤ length) && decide (length ≤ blockSize port) &&
  decide (address % blockSize port + length ≤ blockSize port)

/-- The data bytes are those the kind calls for: none for a fetch, length bytes for a store (R149). -/
def dataWellFormed (kind : RequestKind) (length : Nat) (data : List Byte) : Bool :=
  match kind with
  | .fetch | .portFetch => data.isEmpty
  | .portStore => data.length == length

/-- The form of a FETCH, PORT_FETCH or PORT_STORE (R149). -/
def requestWellFormed (kind : RequestKind) (f : RequestFields) : Bool :=
  decide (f.tag.toNat < 64) && rangeWellFormed kind.isPort f.address.toNat f.length.toNat &&
  dataWellFormed kind f.length.toNat f.data

/-- The form of a STORE (R149). -/
def storeWellFormed (f : StoreFields) : Bool :=
  rangeWellFormed false f.address.toNat f.length.toNat && (f.data.length == f.length.toNat)

/-! ## Management operands: one value each (R165, R191) -/

/-- A bay, 0 to 5. -/
def bayOperand (x : Byte) : Option BayId := BayId.ofNat? x.toNat

/-- A window index, 0 to 31. -/
def indexOperand (x : Byte) : Option (Fin 32) := if h : x.toNat < 32 then some ⟨x.toNat, h⟩ else none

/-- A yes (1) or no (0). -/
def yesNoOperand (x : Byte) : Option Bool :=
  match x.toNat with
  | 0 => some false
  | 1 => some true
  | _ => none

/-- A space. -/
def spaceOperand (x : Byte) : Option Space :=
  match x.toNat with
  | 0 => some .bulk
  | 1 => some .profile
  | 2 => some .port
  | _ => none

/-- A width, the number 8 or 16. -/
def widthOperand (x : Byte) : Option Width :=
  match x.toNat with
  | 8 => some .w8
  | 16 => some .w16
  | _ => none

/-- A wait class, 0 to 3. -/
def waitClassOperand (x : Byte) : Option (Fin 4) := if h : x.toNat < 4 then some ⟨x.toNat, h⟩ else none

/-- A protect value. -/
def protectOperand (x : Byte) : Option Protect :=
  match x.toNat with
  | 0 => some .writable
  | 1 => some .readOnly
  | _ => none

/-- A removal policy. -/
def removalPolicyOperand (x : Byte) : Option RemovalPolicy :=
  match x.toNat with
  | 0 => some .keep
  | 1 => some .clear
  | _ => none

/-- An access timer, 2 to 255 µs (R95). -/
def accessTimerOperand (x : Byte) : Option Nat := if 2 ≤ x.toNat then some x.toNat else none

/-- A supply class of POWER_ON, L or H (R81). -/
def supplyOperand (x : Byte) : Option Supply :=
  match x.toNat with
  | 1 => some .l
  | 2 => some .h
  | _ => none

/-- A quiesce mode. -/
def modeOperand (x : Byte) : Option QuiesceMode :=
  match x.toNat with
  | 0 => some .drain
  | 1 => some .abandon
  | _ => none

/-- A source: a bay 0 to 5, or BRIDGE 6. -/
def sourceOperand (x : Byte) : Option Source :=
  match x.toNat with
  | 6 => some .bridge
  | n => (BayId.ofNat? n).map Source.bay

/-- A source and a set of its kinds; a foreign kind is refused (R142). -/
def kindsOperand (source kinds : Byte) : Option (Source × BitVec 8) :=
  match sourceOperand source with
  | none => none
  | some s => if kinds &&& ~~~s.kinds = 0#8 then some (s, kinds) else none

/-! ## Management operands: whole lists. `none` is BAD_OPERAND (R165). -/

/-- No operands. -/
def noOperands : List Byte → Option Unit
  | [] => some ()
  | _ => none

/-- One operand. -/
def oneOperand {α : Type} (read : Byte → Option α) : List Byte → Option α
  | [x] => read x
  | _ => none

/-- The operands of WINDOW_WRITE, with every check of R17. -/
def windowWriteOperands : List Byte → Option (Fin 32 × Window)
  | [index, valid, bay, space, width, waitClass, protect, s0, s1, u0, u1, u2, u3, u4, u5, u6, u7, b0, b1, b2, b3] =>
    match indexOperand index, yesNoOperand valid, bayOperand bay, spaceOperand space, widthOperand width,
      waitClassOperand waitClass, protectOperand protect with
    | some index, some valid, some bay, some space, some width, some waitClass, some protect =>
      let w : Window :=
        { valid, bay, space, upstreamBase := leNat [u0, u1, u2, u3, u4, u5, u6, u7], granules := leNat [s0, s1],
          bayBase := leNat [b0, b1, b2, b3], width, waitClass, protect }
      if w.legal then some (index, w) else none
    | _, _, _, _, _, _, _ => none
  | _ => none

/-- The operands of BAY_POLICY (R95). -/
def bayPolicyOperands : List Byte → Option (BayId × Policy)
  | [bay, autoPower, removal, timer] =>
    match bayOperand bay, yesNoOperand autoPower, removalPolicyOperand removal, accessTimerOperand timer with
    | some bay, some autoPower, some windowsOnRemoval, some accessTimer =>
      some (bay, { autoPower, windowsOnRemoval, accessTimer })
    | _, _, _, _ => none
  | _ => none

/-- The operands of POWER_ON (R81). -/
def powerOnOperands : List Byte → Option (BayId × Supply)
  | [bay, supply] =>
    match bayOperand bay, supplyOperand supply with
    | some bay, some supply => some (bay, supply)
    | _, _ => none
  | _ => none

/-- The operands of QUIESCE (R107). -/
def quiesceOperands : List Byte → Option (BayId × QuiesceMode)
  | [bay, mode] =>
    match bayOperand bay, modeOperand mode with
    | some bay, some mode => some (bay, mode)
    | _, _ => none
  | _ => none

/-- The operands of EVENT_ENABLE and EVENT_CLEAR (R142). -/
def eventKindsOperands : List Byte → Option (Source × BitVec 8)
  | [source, kinds] => kindsOperand source kinds
  | _ => none

/-- The operands of EVENT_INJECT: a source and exactly one of its kinds (R142). -/
def eventInjectOperands : List Byte → Option EventId
  | [source, kinds] =>
    match kindsOperand source kinds with
    | none => none
    | some (s, kinds) => s.events.find? (fun e => e.mask = kinds)
  | _ => none

end Sys2Proof.Machine
end

