-- ==== Sys2Proof/Machine/Wire.lean ====
section
/-! DEFINITION. Wire formats (R191): value codes, the bytes of every packet and frame the bridge sends, the 32-bit
check, and the command that a received frame is (R182). -/

namespace Sys2Proof

/-- The code of a bay. -/
def BayId.code (b : BayId) : Byte := BitVec.ofNat 8 b.toNat

end Sys2Proof

namespace Sys2Proof.Machine

/-! ## Value codes (R191) -/

/-- yes 1, no 0. -/
def boolCode (x : Bool) : Byte := if x then 1 else 0

/-- The code of an answer status. -/
def AnswerStatus.code : AnswerStatus → Byte
  | .ok => 0
  | .unmapped => 1
  | .protectedWindow => 2
  | .noModule => 3
  | .notReady => 4
  | .quiesced => 5
  | .bayTimeout => 6
  | .moduleError => 7
  | .gone => 8
  | .bayFault => 9

/-- The code of a management status. -/
def MgmtStatus.code : MgmtStatus → Byte
  | .done => 0
  | .badCommand => 1
  | .badOperand => 2
  | .overlap => 3
  | .noModule => 4
  | .wrongState => 5
  | .supplyMismatch => 6
  | .already => 7

/-- The code of a source. -/
def Source.code : Source → Byte
  | .bay b => b.code
  | .bridge => 6

/-- The code of a reason. -/
def Reason.code : Reason → Byte
  | .unrecognized => 0x01
  | .powerFail => 0x02
  | .readyTimeout => 0x03
  | .profileBad => 0x04
  | .unresponsive => 0x05
  | .noModule => 0x11
  | .notReady => 0x12
  | .quiesced => 0x13
  | .protectedWindow => 0x14
  | .bayTimeout => 0x15
  | .moduleError => 0x16
  | .gone => 0x17
  | .bayFault => 0x18
  | .overrun => 0x21
  | .malformed => 0x22
  | .tagInUse => 0x23
  | .injected => 0x3F

/-- The code of a reason that may be absent. -/
def reasonCode : Option Reason → Byte
  | none => 0x00
  | some r => r.code

/-- The event reason that says a fault reason. -/
def FaultReason.reason : FaultReason → Reason
  | .unrecognized => .unrecognized
  | .powerFail => .powerFail
  | .readyTimeout => .readyTimeout
  | .profileBad => .profileBad
  | .unresponsive => .unresponsive

/-- The code of a bay state: EMPTY 0 to FAULTED 10. -/
def BayState.code : BayState → Byte
  | .empty => 0
  | .settling => 1
  | .identifying => 2
  | .unpowered => 3
  | .powering => 4
  | .resetting => 5
  | .profiling => 6
  | .ready => 7
  | .quiescing => 8
  | .quiesced => 9
  | .faulted => 10

/-- The code of a module class that may be absent. -/
def moduleClassCode : Option ModuleClass → Byte
  | none => 0xFF
  | some .both => 0
  | some .lOnly => 1
  | some .hOnly => 2
  | some .unrecognized => 3

/-- The code of a supply class. -/
def Supply.code : Supply → Byte
  | .none => 0
  | .l => 1
  | .h => 2

/-- The code of a space. -/
def Space.code : Space → Byte
  | .bulk => 0
  | .profile => 1
  | .port => 2

/-- The code of a protect value. -/
def Protect.code : Protect → Byte
  | .writable => 0
  | .readOnly => 1

/-- The code of a removal policy. -/
def RemovalPolicy.code : RemovalPolicy → Byte
  | .keep => 0
  | .clear => 1

/-- The code of a width: the number 8 or 16. -/
def Width.code : Width → Byte
  | .w8 => 8
  | .w16 => 16

/-! ## Results of management commands (R191) -/

/-- WINDOW_READ: the nine fields in the order of WINDOW_WRITE after index. -/
def Window.resultBytes (w : Window) : List Byte :=
  [boolCode w.valid, w.bay.code, w.space.code, w.width.code, BitVec.ofNat 8 w.waitClass.val, w.protect.code] ++
  leBytes 2 w.granules ++ leBytes 8 w.upstreamBase ++ leBytes 4 w.bayBase

/-- The summary part of BAY_STATUS: present, kind, width capability, minimum wait class, attention supported, serial; all
0 when the summary is absent. -/
def summaryBytes : Option ProfileSummary → List Byte
  | none => List.replicate 12 0
  | some p =>
    [1] ++ leBytes 2 p.kind.toNat ++
    [p.widthCapability.code, BitVec.ofNat 8 p.minWaitClass.val, boolCode p.attentionSupported] ++ p.serial

/-- BAY_STATUS (R168). -/
def Bay.reportBytes (b : Bay) : List Byte :=
  [b.life.state.code, moduleClassCode b.life.moduleClass, b.life.supply.code,
    reasonCode (b.life.faultReason.map FaultReason.reason)] ++
  summaryBytes b.life.summary ++ [BitVec.ofNat 8 b.list.length] ++ leBytes 2 b.life.unanswered ++
  [boolCode b.life.policy.autoPower, b.life.policy.windowsOnRemoval.code, BitVec.ofNat 8 b.life.policy.accessTimer]

/-- One kind of EVENT_READ: flag, count, first reason, enable (R141). -/
def EventRecord.readBytes (r : EventRecord) : List Byte :=
  [boolCode r.flag, BitVec.ofNat 8 r.count, reasonCode r.firstReason, boolCode r.enable]

/-- One kind of EVENT_CLEAR: count and first reason before the clear (R139). -/
def EventRecord.clearedBytes (r : EventRecord) : List Byte := [BitVec.ofNat 8 r.count, reasonCode r.firstReason]

/-- COUNTERS_READ: the six counters in the order of R190. -/
def LinkCounters.resultBytes (c : LinkCounters) : List Byte :=
  leBytes 2 c.checkErrors ++ leBytes 2 c.resendsSent ++ leBytes 2 c.resendsReceived ++
  leBytes 2 c.replayExhaustions ++ leBytes 2 c.linkDowns ++ leBytes 2 c.overruns

/-! ## Packets and frames -/

/-- The payload of a packet the bridge sends. -/
def UpPacket.bytes : UpPacket → List Byte
  | .answer tag status data => [0x81, tag.zeroExtend 8, status.code, BitVec.ofNat 8 data.length] ++ data
  | .grant store request mgmt => [0x82, BitVec.ofNat 8 store, BitVec.ofNat 8 request, BitVec.ofNat 8 mgmt]
  | .notice seq source kinds => [0x83, seq, source.code, kinds]
  | .mgmtResp r => [0x84, r.seq, r.status.code] ++ r.results

/-- One bit of the check: generator 04C11DB7h with the least significant bit first. DESIGN CHOICE (log 25): the
remainder is held in the same bit order. -/
def crcBit (r : BitVec 32) : BitVec 32 := if r.getLsbD 0 then (r >>> 1) ^^^ 0xEDB88320#32 else r >>> 1

/-- One byte of the check. -/
def crcByte (r : BitVec 32) (b : Byte) : BitVec 32 :=
  crcBit (crcBit (crcBit (crcBit (crcBit (crcBit (crcBit (crcBit (r ^^^ b.zeroExtend 32))))))))

/-- The four check bytes of a frame (R191): the remainder starts at FFFFFFFFh; its one's complement, low byte first. -/
def checkBytes (bytes : List Byte) : List Byte := leBytes 4 (~~~(bytes.foldl crcByte 0xFFFFFFFF#32)).toNat

/-- A frame without its check: kind, sequence number, payload length, payload (R191). -/
def envelope (kind : Byte) (seq : Nat) (payload : List Byte) : List Byte :=
  [kind] ++ leBytes 2 seq ++ [BitVec.ofNat 8 payload.length] ++ payload

/-- A frame with its check. -/
def frameBytes (kind : Byte) (seq : Nat) (payload : List Byte) : List Byte :=
  envelope kind seq payload ++ checkBytes (envelope kind seq payload)

/-- The bytes of a frame the bridge sends. -/
def WireFrame.bytes : WireFrame → List Byte
  | .sequenced f => frameBytes 0x01 f.seq.toNat f.packet.bytes
  | .train ready epoch => frameBytes 0x02 0 [boolCode ready, epoch]
  | .ack n => frameBytes 0x03 0 (leBytes 2 n.toNat)
  | .resend n => frameBytes 0x04 0 (leBytes 2 n.toNat)
  | .idle => frameBytes 0x05 0 []

/-! ## The command that a received frame is (R182) -/

/-- The command of a frame whose check is right: undefined kinds and wrong payload lengths are unreadable. A packet is
read as one that meets no event on its way (logs 28 and 29). -/
def goodFrameCommand (kind : Byte) (seq : Nat) (payload : List Byte) : Instr :=
  if kind = 0x01#8 then
    if 1 ≤ payload.length ∧ payload.length ≤ 80 then .sequencedFrameReceived (BitVec.ofNat 12 seq) ⟨payload, .nothing⟩
    else .badFrameReceived
  else if kind = 0x02#8 then
    match payload with
    | [flag, epoch] => .trainReceived (flag.getLsbD 0) epoch
    | _ => .badFrameReceived
  else if kind = 0x03#8 then
    match payload with
    | [n0, n1] => if leNat [n0, n1] < 4096 then .ackReceived (BitVec.ofNat 12 (leNat [n0, n1])) else .badFrameReceived
    | _ => .badFrameReceived
  else if kind = 0x04#8 then
    match payload with
    | [n0, n1] => if leNat [n0, n1] < 4096 then .resendReceived (BitVec.ofNat 12 (leNat [n0, n1])) else .badFrameReceived
    | _ => .badFrameReceived
  else if kind = 0x05#8 then
    match payload with
    | [] => .idleReceived
    | _ => .badFrameReceived
  else .badFrameReceived

/-- The command that the bytes of a received frame are (R182, R191): check, then sequence bits, kind and payload
length. A frame whose own length does not fit its payload length is taken as bad (log 14). -/
def frameCommand : List Byte → Instr
  | kind :: s0 :: s1 :: len :: rest =>
    let payload := rest.take len.toNat
    if rest.length = len.toNat + 4 ∧ rest.drop len.toNat = checkBytes ([kind, s0, s1, len] ++ payload) ∧
        leNat [s0, s1] < 4096 then
      goodFrameCommand kind (leNat [s0, s1]) payload
    else .badFrameReceived
  | _ => .badFrameReceived

end Sys2Proof.Machine
end

