-- ==== Sys2Proof/Machine/Ops.lean ====
section
/-! DEFINITION. The named operations over the state: replacing one part, raising an event, the credit ledger (R119 to
R125), the transmitter and the replay list (R185 to R187), and the control frames of the link unit (R179, R182,
R183). -/

namespace Sys2Proof.Machine

/-! ## Replacing one part of the state -/

/-- Replace the link unit. -/
def State.setLink (s : State) (x : LinkUnit) : State := { s with link := x }

/-- Replace the credit ledger. -/
def State.setLedger (s : State) (x : Ledger) : State := { s with ledger := x }

/-- Replace the starvation count. -/
def State.setStarvation (s : State) (x : Nat) : State := { s with starvation := x }

/-- Replace the Window Table. -/
def State.setWindows (s : State) (x : WindowTable) : State := { s with windows := x }

/-- Replace the bays. -/
def State.setBays (s : State) (x : PerBay Bay) : State := { s with bays := x }

/-- Replace the answer order list. -/
def State.setAnswerOrder (s : State) (x : List OpenEntry) : State := { s with answerOrder := x }

/-- Replace the bus. -/
def State.setBus (s : State) (x : Bus) : State := { s with bus := x }

/-- Replace the Notice Unit. -/
def State.setNotice (s : State) (x : NoticeUnit) : State := { s with notice := x }

/-- Replace the management context. -/
def State.setMgmt (s : State) (x : Mgmt) : State := { s with mgmt := x }

/-- One bay. -/
def State.bay (s : State) (b : BayId) : Bay := s.bays.get b

/-- Replace one bay. -/
def State.setBay (s : State) (b : BayId) (x : Bay) : State := s.setBays (s.bays.set b x)

/-- Change the lifecycle controller of one bay. -/
def State.updLife (s : State) (b : BayId) (f : Lifecycle → Lifecycle) : State :=
  s.setBay b { s.bay b with life := f (s.bay b).life }

/-- Change the engine of one bay. -/
def State.updEngine (s : State) (b : BayId) (f : Engine → Engine) : State :=
  s.setBay b { s.bay b with engine := f (s.bay b).engine }

/-- Replace the bay list of one bay. -/
def State.setList (s : State) (b : BayId) (l : List Entry) : State := s.setBay b { s.bay b with list := l }

/-- The link is UP. -/
def State.isUp (s : State) : Bool := s.link.state == .up

/-- Raise an event at the Notice Unit (R134, R135). -/
def State.raise (s : State) (e : EventId) (reason : Option Reason) : State := s.setNotice (s.notice.raise e reason)

/-! ## The credit ledger -/

/-- The counts of a pool. -/
def Ledger.get (l : Ledger) : Pool → Credit
  | .store => l.store
  | .request => l.request
  | .mgmt => l.mgmt

/-- Replace the counts of a pool. -/
def Ledger.set (l : Ledger) (p : Pool) (c : Credit) : Ledger :=
  match p with
  | .store => { l with store := c }
  | .request => { l with request := c }
  | .mgmt => { l with mgmt := c }

/-- The sum of the three pending-return counts (R124). -/
def Ledger.pendingTotal (l : Ledger) : Nat :=
  l.store.pendingReturn + l.request.pendingReturn + l.mgmt.pendingReturn

/-- A packet consumes a credit of its pool (R148). -/
def Ledger.consume (l : Ledger) (p : Pool) : Ledger :=
  l.set p { l.get p with outstanding := (l.get p).outstanding - 1 }

/-- One credit of a pool goes to pending return; the grant timer starts when the sum rises from 0 (R120, R124). -/
def Ledger.returnOne (l : Ledger) (p : Pool) : Ledger :=
  { l.set p { l.get p with pendingReturn := (l.get p).pendingReturn + 1 } with
    grantTimer := l.grantTimer || (l.pendingTotal == 0) }

/-- The ledger while the link is not UP (R122). -/
def Ledger.zeroed : Ledger := Ledger.reset

/-- The ledger at the entry to UP, from the numbers of FREE entries (R123); the rise of the sum from 0 starts the grant
timer (R124; log 15). -/
def Ledger.seeded (storeFree requestFree mgmtFree : Nat) : Ledger :=
  { store := ⟨0, storeFree⟩, request := ⟨0, requestFree⟩, mgmt := ⟨0, mgmtFree⟩,
    grantTimer := decide (0 < storeFree + requestFree + mgmtFree), grantExpired := false, seedDue := true }

/-- A GRANT is wanted, while the link is UP (R124). -/
def Ledger.grantWanted (l : Ledger) : Bool :=
  decide (0 < l.pendingTotal) &&
  (decide (4 ≤ l.store.pendingReturn) || decide (4 ≤ l.request.pendingReturn) ||
   decide (1 ≤ l.mgmt.pendingReturn) || l.grantExpired || l.seedDue)

/-- A pool's credits pending return become outstanding (R125). -/
def Credit.granted (c : Credit) : Credit := ⟨c.outstanding + c.pendingReturn, 0⟩

/-- The ledger at the placement of a GRANT (R125). -/
def Ledger.granted (l : Ledger) : Ledger :=
  { store := l.store.granted, request := l.request.granted, mgmt := l.mgmt.granted,
    grantTimer := false, grantExpired := false, seedDue := false }

/-- A report of a freed entry of a pool: pending return while the link is UP, nothing otherwise (R48, R120, R122). -/
def State.freed (s : State) (p : Pool) : State := if s.isUp then s.setLedger (s.ledger.returnOne p) else s

/-! ## The transmitter (R185) -/

/-- Waiting control frames are sent in the order ACK, RESEND, IDLE (R185); a waiting TRAIN comes first (log 11). -/
def WireFrame.rank : WireFrame → Nat
  | .train _ _ => 0
  | .ack _ => 1
  | .resend _ => 2
  | .idle => 3
  | .sequenced _ => 4

/-- A control frame takes its place among those that wait, behind earlier ones of its kind. -/
def insertControl (f : WireFrame) : List WireFrame → List WireFrame
  | [] => [f]
  | g :: rest => if f.rank < g.rank then f :: g :: rest else g :: insertControl f rest

/-- With nothing under transmission, begin the next frame: control frames, then retransmitted frames, then placed ones. -/
def Transmitter.begin (t : Transmitter) : Transmitter :=
  match t.current with
  | some _ => t
  | none =>
    match t.control, t.retransmit, t.fresh with
    | c :: rest, _, _ => { t with current := some c, control := rest }
    | [], f :: rest, _ => { t with current := some (.sequenced f), retransmit := rest }
    | [], [], f :: rest => { t with current := some (.sequenced f), fresh := rest }
    | [], [], [] => t

/-- A control frame is called for. -/
def Transmitter.sendControl (t : Transmitter) (f : WireFrame) : Transmitter :=
  Transmitter.begin { t with control := insertControl f t.control }

/-- A placed frame is to be sent. -/
def Transmitter.sendPlaced (t : Transmitter) (f : Frame) : Transmitter :=
  Transmitter.begin { t with fresh := t.fresh ++ [f] }

/-- A retransmission is called for: it replaces what remains of an earlier one. A placed frame that waits for its first
sending and is part of the retransmission is sent with it, once (log 10). A placed frame that waits and is no part of it
stays behind it, though it was placed before the retransmission began (DESIGN CHOICE, log 33). A placed frame that was to
be sent with an earlier retransmission, and is part of what the new one replaces but no part of the new one, gets no first
sending until a later retransmission covers it (DESIGN CHOICE, log 34). -/
def Transmitter.sendAgain (t : Transmitter) (frames : List Frame) : Transmitter :=
  Transmitter.begin
    { t with retransmit := frames, fresh := t.fresh.filter (fun f => !frames.any (fun g => g.seq == f.seq)) }

/-- The end of the frame under transmission (R185). -/
def Transmitter.finish (t : Transmitter) : Transmitter := Transmitter.begin { t with current := none }

/-! ## The link unit -/

/-- Send a TRAIN frame: the ready flag and the link epoch as they stand (R179). -/
def LinkUnit.sendTrain (l : LinkUnit) : LinkUnit :=
  { l with tx := l.tx.sendControl (.train l.trainSeen l.epoch), trainsSent := l.trainsSent + 1 }

/-- Send an ACK of the last frame accepted in order (R183). -/
def LinkUnit.sendAck (l : LinkUnit) : LinkUnit :=
  { l with tx := l.tx.sendControl (.ack (l.receiveExpected - 1)), ackOwed := 0,
           timers := { l.timers with ack := false } }

/-- Send a RESEND carrying receive expected, unless one has gone out since the last acceptance (R182). -/
def LinkUnit.sendResend (l : LinkUnit) : LinkUnit :=
  if l.resendSent then l
  else
    { l with tx := l.tx.sendControl (.resend l.receiveExpected), resendSent := true,
             counters := { l.counters with resendsSent := satSucc 65535 l.counters.resendsSent } }

/-- Send an IDLE frame; the keepalive timer waits for the end of a frame (R188; log 12). -/
def LinkUnit.sendIdle (l : LinkUnit) : LinkUnit :=
  { l with tx := l.tx.sendControl .idle, timers := { l.timers with keepalive := false } }

/-- The end of the frame under transmission: the next one begins, and in UP the keepalive timer restarts (R185, R188). -/
def LinkUnit.frameEnd (l : LinkUnit) : LinkUnit :=
  { l with tx := l.tx.finish, timers := { l.timers with keepalive := l.timers.keepalive || (l.state == .up) } }

/-- A bad or unreadable frame is counted (R182). -/
def LinkUnit.countBad (l : LinkUnit) : LinkUnit :=
  { l with counters := { l.counters with checkErrors := satSucc 65535 l.counters.checkErrors } }

/-- Receive activity in UP restarts the silence timer (R184). -/
def LinkUnit.activity (l : LinkUnit) : LinkUnit := { l with timers := { l.timers with silence := true } }

/-- Enter DOWN: the hold-off runs, nothing else does, and nothing is sent (R178, R185). -/
def LinkUnit.enterDown (l : LinkUnit) : LinkUnit := { l with state := .down, timers := .reset, tx := .idle }

/-- Place a packet: a frame with the next sequence number joins the replay list and is sent (R185). -/
def LinkUnit.place (l : LinkUnit) (p : UpPacket) : LinkUnit :=
  { l with transmitNext := l.transmitNext + 1,
           replay := l.replay ++ [⟨l.transmitNext, p⟩],
           timers := { l.timers with replay := l.timers.replay || l.replay.isEmpty },
           tx := l.tx.sendPlaced ⟨l.transmitNext, p⟩ }

/-- Place a packet in the replay list. -/
def State.place (s : State) (p : UpPacket) : State := s.setLink (s.link.place p)

/-- The frames from the one numbered n on; none when no frame has that number (R186). -/
def framesFrom (n : LinkSeq) : List Frame → List Frame
  | [] => []
  | f :: rest => if f.seq = n then f :: rest else framesFrom n rest

/-- The frames after the one numbered n (R186). -/
def framesAfter (n : LinkSeq) (l : List Frame) : List Frame := (framesFrom n l).drop 1

/-- A frame of the list has the number n. -/
def holdsSeq (n : LinkSeq) (l : List Frame) : Bool := l.any (fun f => f.seq == n)

end Sys2Proof.Machine
end

