-- ==== Sys2Proof/Machine/Pools.lean ====
section
/-! DEFINITION. The Request Pools: entries in use, answers, drops, the end of a head (R37, R65), purges (R41, R42),
and link loss (R44, R46). -/

namespace Sys2Proof.Machine

/-! ## Entries -/

/-- The event reason of a store dropped with a status (R41, R65, R156). -/
def AnswerStatus.dropReason : AnswerStatus → Option Reason
  | .ok | .unmapped => none
  | .protectedWindow => some .protectedWindow
  | .noModule => some .noModule
  | .notReady => some .notReady
  | .quiesced => some .quiesced
  | .bayTimeout => some .bayTimeout
  | .moduleError => some .moduleError
  | .gone => some .gone
  | .bayFault => some .bayFault

/-- An entry of the Store Buffer. -/
def Entry.isStore : Entry → Bool
  | .store _ => true
  | .request _ => false

/-- An entry that waits in its bay list. -/
def Entry.isQueued : Entry → Bool
  | .store e => e.state == .queued
  | .request e => e.state == .queued

/-- An entry of the Open-Request Table that link loss frees or orphans (R44). -/
def Entry.isLost : Entry → Bool
  | .store _ => false
  | .request e => e.state == .queued || e.state == .active

/-- The entry in ACTIVE (R28, R32). -/
def Entry.activated : Entry → Entry
  | .store e => .store { e with state := .active }
  | .request e => .request { e with state := .active }

/-- The snapshot of an entry. -/
def Entry.snap : Entry → Option Snapshot
  | .store e => some e.snap
  | .request e => e.snap

/-- The length of an entry's request. -/
def Entry.length : Entry → Nat
  | .store e => e.length
  | .request e => e.length

/-- The bytes of an entry whose cycles have ended normally. -/
def Entry.bytesDone : Entry → Nat
  | .store e => e.bytesDone
  | .request e => e.bytesDone

/-- The data of an entry. -/
def Entry.data : Entry → List Byte
  | .store e => e.data
  | .request e => e.data

/-- The entry's cycles are writes. -/
def Entry.isWrite : Entry → Bool
  | .store _ => true
  | .request e => e.kind == .portStore

/-- The normal end of a cycle of `n` bytes: bytes done advances, and a fetch stores the bytes read (R55). -/
def Entry.advanced (n : Nat) (read : List Byte) : Entry → Entry
  | .store e => .store { e with bytesDone := e.bytesDone + n }
  | .request e =>
    .request
      { e with bytesDone := e.bytesDone + n, data := if e.kind == .portStore then e.data else e.data ++ read }

/-- The entry in ANSWER_READY with a status; any status but OK discards the data (R32). R32 and R41 say so of a fetch's
data. The model empties a PORT_STORE's own data with it, which no answer carries (DESIGN CHOICE, log 30). -/
def OpenEntry.answered (e : OpenEntry) (status : AnswerStatus) : OpenEntry :=
  { e with state := .answerReady, status := some status, data := if status = .ok then e.data else [] }

/-- The Store Buffer entries in use (R119). -/
def State.storesInUse (s : State) : Nat := (s.bays.toList.map (fun b => b.list.countP Entry.isStore)).sum

/-- The Open-Request Table entries in use, ORPHANED included (R119). -/
def State.requestsInUse (s : State) : Nat :=
  (s.bays.toList.map (fun b => b.list.countP (fun e => !e.isStore))).sum + s.answerOrder.length

/-- The MGMT entry in use: a MGMT packet whose response has not been placed (R121). -/
def State.mgmtInUse (s : State) : Nat := if s.mgmt.busy then 1 else 0

/-- Some entry of the bay list has this tag in force (R30). -/
def Entry.hasTag (tag : BitVec 6) : Entry → Bool
  | .store _ => false
  | .request e => (e.state == .queued || e.state == .active) && (e.tag == tag)

/-- The tag is in force: an entry in QUEUED, ACTIVE or ANSWER_READY holds it (R30, R151). -/
def State.tagInForce (s : State) (tag : BitVec 6) : Bool :=
  s.bays.toList.any (fun b => b.list.any (Entry.hasTag tag)) || s.answerOrder.any (fun e => e.tag == tag)

/-! ## Outcomes of entries -/

/-- A dropped store raises STORE_DROPPED of its bay, once (R28). -/
def State.dropStore (s : State) (b : BayId) (status : AnswerStatus) : State :=
  s.raise (.bay b .storeDropped) status.dropReason

/-- An entry in ANSWER_READY joins the tail of the answer order list (R40). -/
def State.joinAnswers (s : State) (e : OpenEntry) : State := s.setAnswerOrder (s.answerOrder ++ [e])

/-- What becomes of an entry taken off its list with a status: a store is freed, and dropped unless the status is OK; an
orphan is freed; another open request becomes ANSWER_READY (R32, R41, R65). -/
def State.settleEntry (s : State) (b : BayId) (status : AnswerStatus) : Entry → State
  | .store _ => (if status = .ok then s else s.dropStore b status).freed .store
  | .request e => if e.state = .orphaned then s.freed .request else s.joinAnswers (e.answered status)

/-- Several entries taken off their list, head first (R41). -/
def State.settleEntries (s : State) (b : BayId) (status : AnswerStatus) (l : List Entry) : State :=
  l.foldl (fun s e => s.settleEntry b status e) s

/-- The head leaves its bay list at its end (R37, R65). With an empty list the report finds no entry (R43). -/
def State.endHead (s : State) (b : BayId) (status : AnswerStatus) : State :=
  match (s.bay b).list with
  | [] => s
  | e :: rest => (s.settleEntry b status e).setList b rest

/-- A purge empties the bay list (R41). -/
def State.purge (s : State) (b : BayId) (status : AnswerStatus) : State :=
  (s.settleEntries b status (s.bay b).list).setList b []

/-- A purge that leaves the head, whose cycle is in progress (R42). -/
def State.purgeBehindHead (s : State) (b : BayId) (status : AnswerStatus) : State :=
  match (s.bay b).list with
  | [] => s
  | e :: rest => (s.settleEntries b status rest).setList b [e]

/-! ## Link loss (R44) -/

/-- An entry of a bay list at link loss: QUEUED requests leave, an ACTIVE one is orphaned, others stay. -/
def Entry.afterLinkLoss : Entry → Option Entry
  | .store e => some (.store e)
  | .request e =>
    match e.state with
    | .queued => none
    | .active => some (.request { e with state := .orphaned })
    | .orphaned | .answerReady => some (.request e)

/-- The entry names this bay. -/
def OpenEntry.namesBay (b : BayId) (e : OpenEntry) : Bool :=
  match e.snap with
  | some p => decide (p.bay = b)
  | none => false

/-- The open requests of a bay freed or orphaned at link loss (R44, R46). -/
def State.lostRequests (s : State) (b : BayId) : Nat :=
  (s.bay b).list.countP Entry.isLost + s.answerOrder.countP (OpenEntry.namesBay b)

/-- A bay at link loss: its list, and its unanswered count, saturating at 65535 (R44, R46). -/
def Bay.afterLinkLoss (bay : Bay) (lost : Nat) : Bay :=
  { bay with list := bay.list.filterMap Entry.afterLinkLoss,
             life := { bay.life with unanswered := min 65535 (bay.life.unanswered + lost) } }

/-- Link loss at the pools. The freed-entry reports find the link not UP and leave the ledger as it is (R44, R122). -/
def State.linkLossAtPools (s : State) : State :=
  { s with bays := s.bays.mapWithId (fun b bay => bay.afterLinkLoss (s.lostRequests b)), answerOrder := [] }

end Sys2Proof.Machine
end

