-- ==== Sys2Proof/Machine/Engine.lean ====
section
/-! DEFINITION. The Bay Access Engine up to the grant of the bus: effective parameters (R52), splitting into cycles (R53 to
R55), starting a request (R51), the profile read (R68), the arbiter (R56, R57), and stopping (R70, R71). -/

namespace Sys2Proof.Machine

/-! ## Effective parameters and cycles -/

/-- The effective width (R52). The summary is present whenever a request is started (log 20). -/
def deriveWidth (summary : Option ProfileSummary) (snap : Snapshot) : Width :=
  match snap.space, summary with
  | .profile, _ => .w8
  | .bulk, some p | .port, some p => if p.widthCapability = .w8 then .w8 else snap.width
  | .bulk, none | .port, none => snap.width

/-- The effective wait class: the larger of the window's and the module's (R52). -/
def deriveWaitClass (summary : Option ProfileSummary) (snap : Snapshot) : Fin 4 :=
  match summary with
  | some p => max snap.waitClass p.minWaitClass
  | none => snap.waitClass

/-- The minimum cycle length of a wait class in ns (R60). -/
def minCycleNs (waitClass : Fin 4) : Nat :=
  match waitClass with
  | 0 => 80
  | 1 => 120
  | 2 => 200
  | 3 => 360

/-- The next cycle of a request is 16 bits wide: an aligned pair of bytes with effective width 16 (R53, R54). -/
def nextIsWide (width : Width) (address remaining : Nat) : Bool :=
  (width == .w16) && (address % 2 == 0) && decide (2 ≤ remaining)

/-- The next cycle of a request (R55). -/
def Entry.nextCycle (e : Entry) (width : Width) (snap : Snapshot) : Cycle :=
  { address := snap.bayAddress + e.bytesDone, space := snap.space,
    wide := nextIsWide width (snap.bayAddress + e.bytesDone) (e.length - e.bytesDone),
    write := e.isWrite, run := none }

/-- The bytes a cycle carries (R55). -/
def Cycle.bytes (c : Cycle) : Nat := if c.wide then 2 else 1

/-- The next cycle of the profile read, an 8-bit read (R68). -/
def profileCycle (offset : Nat) : Cycle :=
  { address := offset, space := .profile, wide := false, write := false, run := none }

/-! ## Starting and stopping -/

/-- The engine without work (R65, R70). -/
def Engine.cleared (e : Engine) : Engine :=
  { e with state := .idle, work := .none, effectiveWidth := none, effectiveWaitClass := none, cycle := none,
           stopAfterCycle := false }

/-- The bus is free of this bay's cycle (R56, R63, R71). -/
def State.releaseBus (s : State) (b : BayId) : State :=
  match s.bus.driven with
  | some c => if c.bay = b then s.setBus { s.bus with driven := none } else s
  | none => s

/-- The engine stops at once (R70, R71): a cycle in progress is abandoned and the bus is free, a cycle that is ready is
withdrawn from the arbiter. -/
def State.stopEngine (s : State) (b : BayId) : State := (s.releaseBus b).updEngine b Engine.cleared

/-- A bay whose list is served (R51). -/
def BayState.served : BayState → Bool
  | .ready | .quiescing => true
  | .empty | .settling | .identifying | .unpowered | .powering | .resetting | .profiling | .quiesced
  | .faulted => false

/-- The engine takes a request as its work and asks for the bus (R51, R52). -/
def Engine.started (e : Engine) (summary : Option ProfileSummary) (entry : Entry) (snap : Snapshot) : Engine :=
  { e with state := .awaitingBus, work := .request, effectiveWidth := some (deriveWidth summary snap),
           effectiveWaitClass := some (deriveWaitClass summary snap),
           cycle := some (entry.nextCycle (deriveWidth summary snap) snap) }

/-- An idle engine without work starts a QUEUED head while the bay is READY or QUIESCING (R51). -/
def State.startRequest (s : State) (b : BayId) : State :=
  match (s.bay b).list with
  | [] => s
  | head :: rest =>
    match head.snap with
    | none => s
    | some snap =>
      if (s.bay b).engine.state = .idle ∧ (s.bay b).engine.work = .none ∧ head.isQueued = true ∧
          (s.bay b).life.state.served = true then
        (s.setList b (head.activated :: rest)).updEngine b
          (fun e => e.started (s.bay b).life.summary head snap)
      else s

/-- The engine takes the profile read as its work (R68). -/
def State.startProfileRead (s : State) (b : BayId) : State :=
  s.updEngine b (fun e =>
    { e with state := .awaitingBus, work := .profileRead, effectiveWidth := none, effectiveWaitClass := none,
             cycle := some (profileCycle 0), profileBytes := [] })

/-! ## The bus arbiter -/

/-- The bays in the order the arbiter looks at them from a pointer (R57). -/
def arbiterOrder (pointer : BayId) : List BayId :=
  [pointer, pointer.next, pointer.next.next, pointer.next.next.next, pointer.next.next.next.next,
   pointer.next.next.next.next.next]

/-- The bay's engine waits for the bus. -/
def State.awaitsBus (s : State) (b : BayId) : Bool := (s.bay b).engine.state == .awaitingBus

/-- The first waiting engine from the pointer on, while the bus is free (R57). -/
def State.grantee (s : State) : Option BayId :=
  match s.bus.driven with
  | some _ => none
  | none => (arbiterOrder s.bus.pointer).find? (fun b => s.awaitsBus b)

/-- The wait class of the engine's work: class 3 for the profile read (R60, R68). -/
def Engine.waitClass (e : Engine) : Fin 4 := e.effectiveWaitClass.getD 3

/-- The bytes a write cycle puts on the data lanes: those of the head at the cycle's position (R55, R56). -/
def Bay.writeLanes (bay : Bay) (c : Cycle) : List Byte :=
  match c.write, bay.list with
  | true, head :: _ => (head.data.drop head.bytesDone).take c.bytes
  | true, [] => []
  | false, _ => []

/-- The lines of a cycle (R56). -/
def Bay.busCycle (bay : Bay) (b : BayId) (c : Cycle) : BusCycle :=
  { bay := b, address := BitVec.ofNat 24 c.address, space := c.space, highSelect := c.wide, write := c.write,
    lanes := bay.writeLanes c }

/-- A cycle starts: it takes the policy's access timer and its minimum length (R60, R62). -/
def Cycle.start (c : Cycle) (accessTimer : Nat) (waitClass : Fin 4) : Cycle :=
  { c with run := some { accessTimer, minLengthNs := minCycleNs waitClass, minElapsed := false } }

/-- Grant the bus to a waiting engine: its cycle starts, and the pointer moves to the bay after it (R57). The access timer
value is taken here, at the start (R62, R68). A cycle that was ready before a BAY_POLICY therefore runs under the new
value, where R62 also says that it keeps its own (DESIGN CHOICE, log 31). -/
def State.grantBus (s : State) (b : BayId) : State :=
  match (s.bay b).engine.cycle with
  | none => s
  | some c =>
    (s.updEngine b (fun e =>
      { e with state := .inCycle, cycle := some (c.start (s.bay b).life.policy.accessTimer e.waitClass) })).setBus
      { driven := some ((s.bay b).busCycle b c), pointer := b.next }

end Sys2Proof.Machine
end

