-- ==== Sys2Proof/Machine/Lifecycle.lean ====
section
/-! DEFINITION. The Bay Lifecycle Controller: presence (R77, R78, R100), identification (R79, R80), power (R82), the
profile header (R86 to R89), faults (R92), removal (R101) and quiesce (R107 to R113). -/

namespace Sys2Proof.Machine

/-! ## Presence -/

/-- Both presence contacts are asserted. -/
def Bay.present (bay : Bay) : Bool := bay.presA && bay.presB

/-- A contact at a new level. -/
def Bay.setContact (bay : Bay) (c : Contact) (level : Bool) : Bay :=
  match c with
  | .presA => { bay with presA := level }
  | .presB => { bay with presB := level }

/-- An EMPTY bay whose contacts are both asserted enters SETTLING (R77, R105). -/
def Bay.detect (bay : Bay) : Bay :=
  if bay.life.state = .empty ∧ bay.present = true then
    { bay with life := { bay.life with state := .settling, timer := some .stablePresence } }
  else bay

/-- The removal filter is in use: from IDENTIFYING until EMPTY (R99). -/
def BayState.filtered : BayState → Bool
  | .empty | .settling => false
  | .identifying | .unpowered | .powering | .resetting | .profiling | .ready | .quiescing | .quiesced
  | .faulted => true

/-- A contact is asserted (R77, R100): EMPTY may enter SETTLING; the filter stops when both have returned. -/
def Bay.contactAsserted (bay : Bay) (c : Contact) : Bay :=
  let bay := (bay.setContact c true).detect
  if bay.life.state.filtered && bay.present then { bay with life := { bay.life with filter := .idle } } else bay

/-- A contact is deasserted (R78, R100): SETTLING returns to EMPTY; from IDENTIFYING on the filter times. -/
def Bay.contactDeasserted (bay : Bay) (c : Contact) : Bay :=
  let bay := bay.setContact c false
  if bay.life.state = .settling then
    { bay with life := { bay.life with state := .empty, timer := none } }
  else if bay.life.state.filtered then { bay with life := { bay.life with filter := .timing } }
  else bay

/-- The filter at an entry to IDENTIFYING: a contact already deasserted starts it (R100). -/
def Bay.filterAtEntry (bay : Bay) : Filter := if bay.present then bay.life.filter else .timing

/-- Enter IDENTIFYING: the sense settle timer starts (R78, R93). -/
def Bay.enterIdentifying (bay : Bay) : Bay :=
  { bay with life := { bay.life with state := .identifying, timer := some .senseSettle, faultReason := none,
                                     lamp := .off, filter := bay.filterAtEntry } }

/-! ## Identification and power -/

/-- The module class of the sense pair (R79). -/
def senseClass (sense1 sense0 : Bool) : ModuleClass :=
  match sense1, sense0 with
  | false, false => .both
  | false, true => .lOnly
  | true, false => .hOnly
  | true, true => .unrecognized

/-- The module supports a supply class (R79). -/
def ModuleClass.supports : ModuleClass → Supply → Bool
  | .both, .l | .both, .h | .lOnly, .l | .hOnly, .h => true
  | _, .none | .lOnly, .h | .hOnly, .l | .unrecognized, .l | .unrecognized, .h => false

/-- PGOOD has arrived in AWAITING_PGOOD: the settle begins (R82). -/
def Lifecycle.pgoodArrived (l : Lifecycle) : Lifecycle :=
  { l with phase := some .settlingPower, timer := some .powerSettle }

/-- Enter POWERING at a class; a PGOOD already asserted arrives at the entry (R82). -/
def Bay.enterPowering (bay : Bay) (supply : Supply) : Bay :=
  let l := { bay.life with state := .powering, supply := supply, phase := some .awaitingPgood,
                           timer := some .powerGoodWait, lamp := .off, mrstAsserted := true }
  { bay with life := if bay.pgood then l.pgoodArrived else l }

/-- PGOOD is watched for its loss (R83). -/
def Lifecycle.watchesPgood (l : Lifecycle) : Bool :=
  match l.state with
  | .powering => l.phase == some .settlingPower
  | .resetting | .profiling | .ready | .quiescing => true
  | .empty | .settling | .identifying | .unpowered | .quiesced | .faulted => false

/-! ## The profile header -/

/-- The width a header's byte names. -/
def widthOf (b : Byte) : Option Width := widthOperand b

/-- The sum of bytes taken as numbers (R87). -/
def byteSum (l : List Byte) : Nat := (l.map BitVec.toNat).sum

/-- The summary of a header that passes its checks (R87, R88); absent when it fails. -/
def headerSummary : List Byte → Option ProfileSummary
  | [s0, s1, k0, k1, version, width, wait, flags, n0, n1, n2, n3, n4, n5, units, check] =>
    match widthOf width, waitClassOperand wait with
    | some widthCapability, some minWaitClass =>
      if s0 = 0xB4#8 ∧ s1 = 0x2E#8 ∧ version = 1#8 ∧
          byteSum [s0, s1, k0, k1, version, width, wait, flags, n0, n1, n2, n3, n4, n5, units, check] % 256 = 0 then
        some { kind := BitVec.ofNat 16 (leNat [k0, k1]), widthCapability, minWaitClass,
               attentionSupported := flags.getLsbD 0, serial := [n0, n1, n2, n3, n4, n5] }
      else none
    | _, _ => none
  | _ => none

/-- Enter READY: store the summary, set the engine's timeout streak to 0, raise READY (R89). -/
def State.enterReady (s : State) (b : BayId) (summary : ProfileSummary) : State :=
  ((s.updLife b (fun l => { l with state := .ready, summary := some summary, timer := none })).updEngine b
    (fun e => { e with timeoutStreak := 0 })).raise (.bay b .ready) none

/-! ## Leaving service -/

/-- The controller with its supply off and MRST asserted, its timer stopped, and phase, MRDY seen, quiesce mode and
profile summary cleared (R92, R101, R112, R113). -/
def Lifecycle.poweredDown (l : Lifecycle) : Lifecycle :=
  { l with supply := .none, mrstAsserted := true, timer := none, phase := none, mrdySeen := false, summary := none,
           quiesceMode := none }

/-- Enter FAULTED for a reason (R92): the engine stops, the list is purged with BAY_FAULT (it is empty outside READY
and QUIESCING, R39, R91), FAULT is raised. -/
def State.enterFaulted (s : State) (b : BayId) (reason : FaultReason) : State :=
  (((s.stopEngine b).purge b .bayFault).updLife b (fun l =>
    { l.poweredDown with state := .faulted, faultReason := some reason, lamp := .blinking })).raise
    (.bay b .fault) (some reason.reason)

/-- The removal clear of the Window Table, by the policy as it stands (R23). -/
def State.removalWindowClear (s : State) (b : BayId) : State :=
  match (s.bay b).life.policy.windowsOnRemoval with
  | .clear => s.setWindows (clearWindowsOf s.windows b)
  | .keep => s

/-- The removal of the bay's module (R101). With both contacts asserted the bay then enters SETTLING at once (R100). -/
def State.removeModule (s : State) (b : BayId) : State :=
  let s := (((s.stopEngine b).purge b .gone).removalWindowClear b).updLife b (fun l =>
    { l.poweredDown with state := .empty, faultReason := none, moduleClass := none, lamp := .off, filter := .idle })
  let s := s.raise (.bay b .removed) none
  s.setBay b (s.bay b).detect

/-- The expiry of the removal timer, which runs while the filter is TIMING (R100, R101). -/
def State.takeRemoval (s : State) (b : BayId) : State :=
  if (s.bay b).life.state.filtered && ((s.bay b).life.filter == .timing) then s.removeModule b else s

/-- The level of PGOOD as the bridge sees it. -/
def State.setPgood (s : State) (b : BayId) (level : Bool) : State := s.setBay b { s.bay b with pgood := level }

/-- The loss of PGOOD: a watched loss faults the bay with POWER_FAIL (R83). -/
def State.takePgoodLoss (s : State) (b : BayId) : State :=
  if (s.bay b).life.watchesPgood then (s.setPgood b false).enterFaulted b .powerFail else s.setPgood b false

/-- The bay shut down on request: QUIESCED, with a STEADY lamp (R112, R113). -/
def Lifecycle.quiescedNow (l : Lifecycle) : Lifecycle :=
  { l.poweredDown with state := .quiesced, faultReason := none, lamp := .steady }

/-- The completion of a quiesce (R112). MRDY seen is left as it stands: R112 does not clear it (log 18). -/
def State.completeQuiesce (s : State) (b : BayId) : State :=
  (s.updLife b (fun l => { l.quiescedNow with mrdySeen := l.mrdySeen })).raise (.bay b .quiesced) none

/-- The report that the list has become empty: it completes the quiesce of a QUIESCING bay (R112). -/
def State.takeQuiesceCompletion (s : State) (b : BayId) : State :=
  if (s.bay b).life.state = .quiescing ∧ (s.bay b).list = [] then s.completeQuiesce b else s

/-- A quiesce that is complete when the list is empty at its acceptance (R108, R109, R112). -/
def State.completeIfEmpty (s : State) (b : BayId) : State :=
  if (s.bay b).list = [] then s.completeQuiesce b else s

/-- QUIESCED entered at once from UNPOWERED, POWERING, RESETTING, PROFILING or FAULTED; a profile read in progress is
stopped (R113). -/
def State.quiesceAtOnce (s : State) (b : BayId) : State :=
  ((s.stopEngine b).updLife b Lifecycle.quiescedNow).raise (.bay b .quiesced) none

/-- ABANDON at the list and the engine (R70, R109): with a cycle in progress the head stays and the cycle runs to its
end; otherwise the whole list is purged and the engine stops. -/
def State.abandon (s : State) (b : BayId) : State :=
  if (s.bay b).engine.state = .inCycle then
    (s.updEngine b (fun e => { e with stopAfterCycle := true })).purgeBehindHead b .quiesced
  else (s.stopEngine b).purge b .quiesced

/-- Enter QUIESCING in a mode (R108, R109). -/
def State.enterQuiescing (s : State) (b : BayId) (mode : QuiesceMode) : State :=
  let s := s.updLife b (fun l => { l with state := .quiescing, quiesceMode := some mode })
  match mode with
  | .drain => s.completeIfEmpty b
  | .abandon => (s.abandon b).completeIfEmpty b

/-- An ABANDON converts a drain (R110). -/
def State.convertDrain (s : State) (b : BayId) : State :=
  ((s.updLife b (fun l => { l with quiesceMode := some .abandon })).abandon b).completeIfEmpty b

/-! ## Admission -/

/-- The answer to intake's admission question: absent for an admission, else the status of the refusal (R96). -/
def BayState.refusal : BayState → Option AnswerStatus
  | .empty | .settling | .identifying => some .noModule
  | .unpowered | .powering | .resetting | .profiling | .faulted => some .notReady
  | .ready => none
  | .quiescing | .quiesced => some .quiesced

end Sys2Proof.Machine
end

