-- ==== Sys2Proof/Machine/Cycles.lean ====
section
/-! DEFINITION. The endings of a bay cycle by the module (R60, R61), of a request (R65, R66), and of the profile read
(R69, R86). The ending by the access timer stands in Machine/Reports.lean. -/

namespace Sys2Proof.Machine

/-! ## The end of a request -/

/-- The timeout streak after a request's end (R66). -/
def streakAfter (streak : Nat) (status : AnswerStatus) : Nat :=
  match status with
  | .bayTimeout => satSucc 4 streak
  | .quiesced => streak
  | _ => 0

/-- The report of the end of the request that the engine serves: its entry leaves the list, the engine is without work,
and the streak changes (R65, R66). -/
def State.finishRequest (s : State) (b : BayId) (status : AnswerStatus) : State :=
  (s.endHead b status).updEngine b (fun e =>
    { e.cleared with timeoutStreak := streakAfter e.timeoutStreak status })

/-- The end of the request that the engine serves, and the start of the next head (R51, R65). -/
def State.endRequest (s : State) (b : BayId) (status : AnswerStatus) : State :=
  (s.finishRequest b status).startRequest b

/-! ## The profile read -/

/-- The outcome of the profile read reaches the lifecycle controller: the bytes, or absent for ERROR and TIMEOUT
(R69, R86). It has no effect outside PROFILING. -/
def State.profileOutcome (s : State) (b : BayId) (bytes : Option (List Byte)) : State :=
  let s := s.updEngine b Engine.cleared
  if (s.bay b).life.state = .profiling then
    match bytes.bind headerSummary with
    | some summary => s.enterReady b summary
    | none => s.enterFaulted b .profileBad
  else s

/-- A normal end of a cycle of the profile read (R68, R69). -/
def State.profileByte (s : State) (b : BayId) (byte : Byte) : State :=
  let bytes := (s.bay b).engine.profileBytes ++ [byte]
  let s := s.updEngine b (fun e => { e with profileBytes := bytes })
  if 16 ≤ bytes.length then s.profileOutcome b (some bytes)
  else s.updEngine b (fun e => { e with state := .awaitingBus, cycle := some (profileCycle bytes.length) })

/-! ## The end of a cycle -/

/-- The bytes a read takes from the data lanes, low lane first (R53, R54, R60). -/
def Cycle.readBytes (c : Cycle) (lanes : BitVec 16) : List Byte :=
  if c.wide then [lanes.extractLsb' 0 8, lanes.extractLsb' 8 8] else [lanes.extractLsb' 0 8]

/-- The engine makes the next cycle of its request ready (R55). -/
def Engine.again (e : Engine) (c : Option Cycle) : Engine := { e with state := .awaitingBus, cycle := c }

/-- The next cycle of the head with the effective width in force (R55). -/
def Engine.nextCycle (e : Engine) (head : Entry) : Option Cycle :=
  match e.effectiveWidth, head.snap with
  | some width, some snap => some (head.nextCycle width snap)
  | _, _ => none

/-- The normal end of a cycle of a request, the bus being free: bytes done advances; then the request ends under
stop-after-cycle (R72), or completes, or its next cycle is made ready (R55, R60). -/
def State.requestCycleDone (s : State) (b : BayId) (c : Cycle) (lanes : BitVec 16) : State :=
  match (s.bay b).list with
  | [] => s.updEngine b Engine.cleared
  | head :: rest =>
    let head := head.advanced c.bytes (c.readBytes lanes)
    let s := s.setList b (head :: rest)
    if (s.bay b).engine.stopAfterCycle then s.endRequest b .quiesced
    else if head.length ≤ head.bytesDone then s.endRequest b .ok
    else s.updEngine b (fun e => e.again (e.nextCycle head))

/-- The end of the bay's cycle, with ERROR and the data lanes as they are sampled there (R60, R61). -/
def State.endCycle (s : State) (b : BayId) (c : Cycle) (error : Bool) (lanes : BitVec 16) : State :=
  let s := s.releaseBus b
  match (s.bay b).engine.work with
  | .none => s.updEngine b Engine.cleared
  | .profileRead =>
    if error then s.profileOutcome b none else s.profileByte b (lanes.extractLsb' 0 8)
  | .request =>
    if error then
      s.endRequest b (if (s.bay b).engine.stopAfterCycle then .quiesced else .moduleError)
    else s.requestCycleDone b c lanes

end Sys2Proof.Machine
end

