-- ==== Sys2Proof/Machine/Link.lean ====
section
/-! DEFINITION. The Trunk Link Unit's changes of state and the reports that go with them: the two resets (R75, R175,
R177), training (R179, R180), the entry to UP (R181), and leaving UP (R189). -/

namespace Sys2Proof.Machine

/-! ## The two resets -/

/-- A bay after either reset: its lines keep their levels, and with both contacts asserted it enters SETTLING at once
(R75). -/
def Bay.afterReset (bay : Bay) : Bay :=
  Bay.detect { Bay.reset with presA := bay.presA, presB := bay.presB, pgood := bay.pgood }

/-- Every block at its power-on values, with the link epoch and the straps as given (R175, R177). -/
def State.resetAll (s : State) (epoch : Byte) (straps : BitVec 4) : State :=
  { State.reset with link := { LinkUnit.reset with epoch := epoch }, bays := s.bays.map Bay.afterReset,
                     straps := straps, pending := s.pending }

/-- The deferred reset of BRIDGE_RESET: the epoch is kept and the straps are not sampled (R175). -/
def State.deferredReset (s : State) : State := s.resetAll s.link.epoch s.straps

/-! ## Training -/

/-- Enter TRAINING: progress 0, 0, no; the training timer and a TRAIN frame (R179). -/
def LinkUnit.enterTraining (l : LinkUnit) : LinkUnit :=
  LinkUnit.sendTrain
    { l with state := .training, trainsInRow := 0, trainsSent := 0, trainSeen := false,
             timers := { l.timers with holdOff := false, training := true, trainInterval := true } }

/-- The conditions of the entry to UP (R180). -/
def LinkUnit.trained (l : LinkUnit) : Bool := (l.trainsInRow == 2) && decide (2 ≤ l.trainsSent)

/-- The link unit at the entry to UP (R181). -/
def LinkUnit.entered (l : LinkUnit) : LinkUnit :=
  { l with state := .up, epoch := l.epoch + 1, receiveExpected := 0, transmitNext := 0, attempts := 0, ackOwed := 0,
           resendSent := false,
           timers := { l.timers with training := false, trainInterval := false, silence := true, keepalive := true } }

/-- The entry to UP, with its reports to the ledger and the Notice Unit (R123, R144, R181). -/
def State.enterUp (s : State) : State :=
  ((s.setLink s.link.entered).setLedger (Ledger.seeded (Config.storePoolSize - s.storesInUse)
    (Config.requestPoolSize - s.requestsInUse) (Config.mgmtPoolSize - s.mgmtInUse))).setNotice s.notice.linkUp

/-- Enter UP if the conditions have become true in TRAINING (R180). -/
def State.enterUpIfTrained (s : State) : State :=
  if s.link.state = .training ∧ s.link.trained = true then s.enterUp else s

/-- A good TRAIN received in TRAINING (R180). -/
def LinkUnit.countTrain (l : LinkUnit) (ready : Bool) : LinkUnit :=
  { l with trainSeen := true, trainsInRow := if ready then min 2 (l.trainsInRow + 1) else 0 }

/-! ## Leaving UP -/

/-- The link unit at the departure from UP (R189). -/
def LinkUnit.left (l : LinkUnit) : LinkUnit :=
  LinkUnit.enterDown
    { l with counters := { l.counters with linkDowns := satSucc 65535 l.counters.linkDowns }, replay := [],
             ackOwed := 0, resendSent := false }

/-- The departure from UP with its reports to the pools and lifecycle controllers (R44, R46), the ledger (R122), the
arbiter (R129), the Notice Unit (R143) and the Management Unit (R163). -/
def State.departUp (s : State) : State :=
  ((((s.linkLossAtPools.setLink s.link.left).setLedger .zeroed).setStarvation 0).setNotice
    s.notice.forgetAnnounced).setMgmt { s.mgmt with busy := false }

/-- The link leaves UP; a pending BRIDGE_RESET is then carried out (R174, R189). -/
def State.leaveUp (s : State) : State :=
  if s.mgmt.resetPending then s.departUp.deferredReset else s.departUp

/-! ## The replay list -/

/-- An ACK for a frame of the replay list: acknowledgement progress (R186). -/
def LinkUnit.acked (l : LinkUnit) (n : LinkSeq) : LinkUnit :=
  { l with replay := framesAfter n l.replay, attempts := 0,
           timers := { l.timers with replay := !(framesAfter n l.replay).isEmpty } }

/-- The frame of the pending BRIDGE_RESET's response is among those an ACK removes (R174). -/
def State.resetAcked (s : State) (n : LinkSeq) : Bool :=
  match s.mgmt.resetFrame with
  | some f => s.mgmt.resetPending && holdsSeq f s.link.replay && !holdsSeq f (framesAfter n s.link.replay)
  | none => false

/-- An ACK carrying n in UP (R184, R186). -/
def State.takeAck (s : State) (n : LinkSeq) : State :=
  let s := s.setLink s.link.activity
  if holdsSeq n s.link.replay then
    if s.resetAcked n then (s.setLink (s.link.acked n)).deferredReset else s.setLink (s.link.acked n)
  else s

/-- A RESEND carrying n in UP (R184, R186). -/
def LinkUnit.takeResend (l : LinkUnit) (n : LinkSeq) : LinkUnit :=
  let l := l.activity
  let l := { l with counters := { l.counters with resendsReceived := satSucc 65535 l.counters.resendsReceived } }
  if holdsSeq n l.replay then { l with tx := l.tx.sendAgain (framesFrom n l.replay) } else l

/-- An expiry of the replay timer that retransmits the whole list (R187). -/
def LinkUnit.replayAgain (l : LinkUnit) : LinkUnit :=
  { l with attempts := l.attempts + 1, tx := l.tx.sendAgain l.replay }

/-- Replay exhaustion is counted (R187). -/
def LinkUnit.countExhaustion (l : LinkUnit) : LinkUnit :=
  { l with timers := { l.timers with replay := false },
           counters := { l.counters with replayExhaustions := satSucc 65535 l.counters.replayExhaustions } }

/-! ## The events that take the link out of UP -/

/-- The loss of the receive signal: out of UP at once (R184, R189), and out of TRAINING (R180). -/
def State.takeSignalLoss (s : State) : State :=
  match s.link.state with
  | .down => s
  | .training => s.setLink s.link.enterDown
  | .up => s.leaveUp

/-- The expiry of the silence timer: out of UP (R184, R189). -/
def State.takeSilenceExpiry (s : State) : State :=
  if s.link.state = .up ∧ s.link.timers.silence = true then s.leaveUp else s

/-- The expiry of the replay timer: the whole list again, or replay exhaustion at the fourth attempt (R187). -/
def State.takeReplayExpiry (s : State) : State :=
  if s.link.state = .up ∧ s.link.timers.replay = true ∧ s.link.replay ≠ [] then
    if s.link.attempts < 3 then s.setLink s.link.replayAgain else (s.setLink s.link.countExhaustion).leaveUp
  else s

/-! ## Acceptance -/

/-- The acceptance of the frame expected next (R183): receive expected advances, the ACK timer starts at the first
acceptance after the last ACK, and an ACK is sent when four are owed. -/
def LinkUnit.accept (l : LinkUnit) : LinkUnit :=
  let l := { l with receiveExpected := l.receiveExpected + 1, ackOwed := l.ackOwed + 1, resendSent := false,
                    timers := { l.timers with ack := true } }
  if 4 ≤ l.ackOwed then l.sendAck else l

/-- A number is earlier than receive expected: a duplicate (R183). -/
def LinkUnit.isDuplicate (l : LinkUnit) (n : LinkSeq) : Bool :=
  decide (1 ≤ (l.receiveExpected - n).toNat) && decide ((l.receiveExpected - n).toNat ≤ 2048)

end Sys2Proof.Machine
end

