-- ==== Sys2Proof/Machine/Management.lean ====
section
/-! DEFINITION. The Management Unit: the management context (R162), and what each command does at its acceptance
(R165 to R173). -/

namespace Sys2Proof.Machine

/-- What the execution of a command gives: a status, results, and the state it leaves. -/
structure CommandResult where
  status  : MgmtStatus
  results : List Byte
  after   : State

/-- A command refused with a status leaves the state as it was (R164). -/
def State.refuse (s : State) (status : MgmtStatus) : CommandResult := { status, results := [], after := s }

/-- A command answered DONE without results. -/
def State.done (s : State) : CommandResult := { status := .done, results := [], after := s }

/-- A command answered DONE with results. -/
def State.doneWith (s : State) (results : List Byte) : CommandResult := { status := .done, results, after := s }

/-! ## IDENTIFY -/

/-- The results of IDENTIFY (R167). -/
def State.identifyBytes (s : State) : List Byte :=
  leBytes 2 Config.vendorCode.toNat ++ leBytes 2 Config.partCode.toNat ++
  [Config.revision, s.straps.zeroExtend 8, s.link.epoch, BitVec.ofNat 8 Config.storePoolSize,
   BitVec.ofNat 8 Config.requestPoolSize, BitVec.ofNat 8 Config.mgmtPoolSize, BitVec.ofNat 8 Config.windowCount]

/-- IDENTIFY (R167). -/
def commandIdentify (operands : List Byte) (s : State) : CommandResult :=
  match noOperands operands with
  | none => s.refuse .badOperand
  | some _ => s.doneWith s.identifyBytes

/-! ## Window commands (R169) -/

/-- WINDOW_WRITE: the checks of R17 and R18, then the whole entry as one change (R19). -/
def commandWindowWrite (operands : List Byte) (s : State) : CommandResult :=
  match windowWriteOperands operands with
  | none => s.refuse .badOperand
  | some (index, w) =>
    if w.valid && overlapsOther s.windows index w then s.refuse .overlap
    else (s.setWindows (s.windows.set index w)).done

/-- WINDOW_READ (R20). -/
def commandWindowRead (operands : List Byte) (s : State) : CommandResult :=
  match oneOperand indexOperand operands with
  | none => s.refuse .badOperand
  | some index => s.doneWith (s.windows[index]).resultBytes

/-- WINDOW_CLEAR (R21). -/
def commandWindowClear (operands : List Byte) (s : State) : CommandResult :=
  match oneOperand indexOperand operands with
  | none => s.refuse .badOperand
  | some index => (s.setWindows (clearWindow s.windows index)).done

/-- WINDOW_CLEAR_BAY (R22). -/
def commandWindowClearBay (operands : List Byte) (s : State) : CommandResult :=
  match oneOperand bayOperand operands with
  | none => s.refuse .badOperand
  | some b =>
    (s.setWindows (clearWindowsOf s.windows b)).doneWith [BitVec.ofNat 8 (countWindowsOf s.windows b)]

/-! ## Lifecycle commands (R169) -/

/-- BAY_STATUS (R168). -/
def commandBayStatus (operands : List Byte) (s : State) : CommandResult :=
  match oneOperand bayOperand operands with
  | none => s.refuse .badOperand
  | some b => s.doneWith (s.bay b).reportBytes

/-- BAY_POLICY (R95). -/
def commandBayPolicy (operands : List Byte) (s : State) : CommandResult :=
  match bayPolicyOperands operands with
  | none => s.refuse .badOperand
  | some (b, policy) => (s.updLife b (fun l => { l with policy := policy })).done

/-- The module in the bay supports a supply class (R79, R81). -/
def Lifecycle.supports (l : Lifecycle) (supply : Supply) : Bool :=
  match l.moduleClass with
  | some c => c.supports supply
  | none => false

/-- POWER_ON (R81). -/
def commandPowerOn (operands : List Byte) (s : State) : CommandResult :=
  match powerOnOperands operands with
  | none => s.refuse .badOperand
  | some (b, supply) =>
    match (s.bay b).life.state with
    | .empty | .settling | .identifying => s.refuse .noModule
    | .unpowered | .quiesced =>
      if (s.bay b).life.supports supply then (s.setBay b ((s.bay b).enterPowering supply)).done
      else s.refuse .supplyMismatch
    | .powering | .resetting | .profiling | .ready | .quiescing | .faulted => s.refuse .wrongState

/-- QUIESCE (R107). -/
def commandQuiesce (operands : List Byte) (s : State) : CommandResult :=
  match quiesceOperands operands with
  | none => s.refuse .badOperand
  | some (b, mode) =>
    match (s.bay b).life.state with
    | .empty | .settling | .identifying => s.refuse .noModule
    | .unpowered | .faulted | .powering | .resetting | .profiling => (s.quiesceAtOnce b).done
    | .ready => (s.enterQuiescing b mode).done
    | .quiescing =>
      if (s.bay b).life.quiesceMode = some .drain ∧ mode = .abandon then
        { status := .already, results := [], after := s.convertDrain b }
      else s.refuse .already
    | .quiesced => s.refuse .already

/-- BAY_RESTART (R93). -/
def commandBayRestart (operands : List Byte) (s : State) : CommandResult :=
  match oneOperand bayOperand operands with
  | none => s.refuse .badOperand
  | some b =>
    match (s.bay b).life.state with
    | .faulted | .quiesced => (s.setBay b (s.bay b).enterIdentifying).done
    | .empty | .settling | .identifying | .unpowered | .powering | .resetting | .profiling | .ready | .quiescing =>
      s.refuse .wrongState

/-! ## Event commands (R170) -/

/-- EVENT_READ (R141). -/
def commandEventRead (operands : List Byte) (s : State) : CommandResult :=
  match oneOperand sourceOperand operands with
  | none => s.refuse .badOperand
  | some source => s.doneWith (source.events.flatMap (fun e => (s.notice.record e).readBytes))

/-- EVENT_ENABLE (R138). -/
def commandEventEnable (operands : List Byte) (s : State) : CommandResult :=
  match eventKindsOperands operands with
  | none => s.refuse .badOperand
  | some (source, kinds) => (s.setNotice (s.notice.enableKinds source kinds)).done

/-- The starvation count after a retraction: 0 when it has left the notice queue empty (R127, R136). -/
def starvationAfterClear (starvation : Nat) (before after : List NoticeRecord) : Nat :=
  if before ≠ [] ∧ after = [] then 0 else starvation

/-- EVENT_CLEAR (R139), with its effect on the starvation count (R136). -/
def commandEventClear (operands : List Byte) (s : State) : CommandResult :=
  match eventKindsOperands operands with
  | none => s.refuse .badOperand
  | some (source, kinds) =>
    let n := s.notice.clearKinds source kinds
    ((s.setNotice n).setStarvation (starvationAfterClear s.starvation s.notice.queue n.queue)).doneWith
      ((source.events.filter (fun e => e.within kinds)).flatMap (fun e => (s.notice.record e).clearedBytes))

/-- EVENT_INJECT (R140). -/
def commandEventInject (operands : List Byte) (s : State) : CommandResult :=
  match eventInjectOperands operands with
  | none => s.refuse .badOperand
  | some e => (s.raise e (some .injected)).done

/-! ## COUNTERS_READ and BRIDGE_RESET -/

/-- COUNTERS_READ (R171). -/
def commandCountersRead (operands : List Byte) (s : State) : CommandResult :=
  match oneOperand yesNoOperand operands with
  | none => s.refuse .badOperand
  | some clear =>
    (if clear then s.setLink { s.link with counters := .reset } else s).doneWith s.link.counters.resultBytes

/-- BRIDGE_RESET: the reset becomes pending, and is carried out later (R173). -/
def commandBridgeReset (operands : List Byte) (s : State) : CommandResult :=
  match noOperands operands with
  | none => s.refuse .badOperand
  | some _ => (s.setMgmt { s.mgmt with resetPending := true }).done

/-! ## Acceptance -/

/-- The command of a code (R166). -/
def commandOf (code : Byte) : Option (List Byte → State → CommandResult) :=
  if code = 0x01#8 then some commandIdentify
  else if code = 0x10#8 then some commandWindowWrite
  else if code = 0x11#8 then some commandWindowRead
  else if code = 0x12#8 then some commandWindowClear
  else if code = 0x13#8 then some commandWindowClearBay
  else if code = 0x20#8 then some commandBayStatus
  else if code = 0x21#8 then some commandBayPolicy
  else if code = 0x22#8 then some commandPowerOn
  else if code = 0x23#8 then some commandQuiesce
  else if code = 0x24#8 then some commandBayRestart
  else if code = 0x30#8 then some commandEventRead
  else if code = 0x31#8 then some commandEventEnable
  else if code = 0x32#8 then some commandEventClear
  else if code = 0x33#8 then some commandEventInject
  else if code = 0x40#8 then some commandCountersRead
  else if code = 0x7F#8 then some commandBridgeReset
  else none

/-- The command of a code, or BAD_COMMAND (R165). -/
def commandByCode (code : Byte) (operands : List Byte) (s : State) : CommandResult :=
  match commandOf code with
  | some command => command operands s
  | none => s.refuse .badCommand

/-- A MGMT packet reaches the Management Unit (R162): a repeated number offers last_response again; any other number
executes the command and records and offers its response. -/
def State.acceptMgmt (s : State) (seq : Byte) (command : State → CommandResult) : State :=
  if s.mgmt.last.map MgmtResp.seq = some seq then s.setMgmt { s.mgmt with busy := true }
  else
    let r := command s
    r.after.setMgmt { r.after.mgmt with last := some { seq, status := r.status, results := r.results }, busy := true }

end Sys2Proof.Machine
end

