-- ==== Sys2Proof/Machine/Intake.lean ====
section
/-! DEFINITION. The Intake Checker: the ordered checks of a request packet and the outcome of each (R147 to R156). -/

namespace Sys2Proof.Machine

/-- An overrun: the packet is discarded, the ledger is unchanged, the event is raised and the counter rises (R148). -/
def State.overrun (s : State) : State :=
  (s.setLink { s.link with counters := { s.link.counters with overruns := satSucc 65535 s.link.counters.overruns } }).raise
    (.bridge .linkProtocol) (some .overrun)

/-- The first check (R148): a packet is delivered while the link is UP alone (R147), and consumes a credit of its pool
or is an overrun. -/
def State.withCredit (s : State) (pool : Pool) (next : State → State) : State :=
  if s.isUp then
    if (s.ledger.get pool).outstanding = 0 then s.overrun else next (s.setLedger (s.ledger.consume pool))
  else s

/-- The consumed credit goes to pending return at the same event (R120). -/
def State.returnCredit (s : State) (pool : Pool) : State := s.setLedger (s.ledger.returnOne pool)

/-- A packet discarded with its credit returned (R149, R151). -/
def State.discard (s : State) (pool : Pool) (reason : Reason) : State :=
  (s.returnCredit pool).raise (.bridge .linkProtocol) (some reason)

/-- The entry of a non-posted request, before its outcome (R29, R31). -/
def newEntry (kind : RequestKind) (f : RequestFields) (snap : Option Snapshot) : OpenEntry :=
  { state := .queued, kind := kind, tag := BitVec.ofNat 6 f.tag.toNat, snap := snap, length := f.length.toNat,
    data := if kind = .portStore then f.data else [], bytesDone := 0, status := none }

/-- A refused non-posted request: an entry directly in ANSWER_READY (R31). -/
def State.refuseRequest (s : State) (e : OpenEntry) (status : AnswerStatus) : State :=
  s.joinAnswers { e with state := .answerReady, status := some status }

/-- The event that takes the link out of UP between the append of an entry and the start of its service (R47; log 29). A
removal is taken ahead of the admission, and not here. -/
def State.takeAfterAppend (s : State) : Meeting → State
  | .nothing | .removal => s
  | .signalLoss => s.takeSignalLoss
  | .silenceExpiry => s.takeSilenceExpiry
  | .replayExpiry => s.takeReplayExpiry

/-- An admitted entry joins the tail of its bay list, and an idle engine starts it at once (R36, R51). A link loss that the
append meets finds the entry QUEUED, ahead of the start (R47). The operand that puts it there is the model's: a link loss
that is a command of its own finds the request started (DESIGN CHOICE, log 29). -/
def State.append (s : State) (b : BayId) (e : Entry) (meets : Meeting) : State :=
  ((s.setList b ((s.bay b).list ++ [e])).takeAfterAppend meets).startRequest b

/-- The protect outcome PROTECTED of a store through a READ_ONLY window (R13). -/
def Window.protects (w : Window) (isStore : Bool) : Bool := isStore && (w.protect == .readOnly)

/-- The removal that overtakes a request between its lookup and its admission (R15; log 28). -/
def State.overtake (s : State) (b : BayId) : Meeting → State
  | .removal => s.takeRemoval b
  | .nothing | .signalLoss | .silenceExpiry | .replayExpiry => s

/-- The checks from the lookup on, for a non-posted request (R153, R154, R155). -/
def State.routeRequest (s : State) (kind : RequestKind) (f : RequestFields) (meets : Meeting) : State :=
  match lookupWindow s.windows kind.isPort f.address.toNat with
  | none => s.refuseRequest (newEntry kind f none) .unmapped
  | some w =>
    let s := s.overtake w.bay meets
    let e := newEntry kind f (some (w.translate f.address.toNat))
    if w.protects (kind == .portStore) then s.refuseRequest e .protectedWindow
    else
      match (s.bay w.bay).life.state.refusal with
      | some status => s.refuseRequest e status
      | none => s.append w.bay (.request e) meets

/-- A FETCH, PORT_FETCH or PORT_STORE at intake (R147 to R155). -/
def State.intakeRequest (s : State) (kind : RequestKind) (fields : Option RequestFields) (meets : Meeting) : State :=
  s.withCredit .request (fun s =>
    match fields with
    | none => s.discard .request .malformed
    | some f =>
      if requestWellFormed kind f = false then s.discard .request .malformed
      else if s.tagInForce (BitVec.ofNat 6 f.tag.toNat) then s.discard .request .tagInUse
      else s.routeRequest kind f meets)

/-- A STORE dropped at intake for a bay: its credit is returned (R156). -/
def State.dropAtIntake (s : State) (b : BayId) (status : AnswerStatus) : State :=
  (s.returnCredit .store).dropStore b status

/-- The Store Buffer entry of an admitted STORE (R27). -/
def newStore (f : StoreFields) (snap : Snapshot) : StoreEntry :=
  { state := .queued, snap := snap, length := f.length.toNat, data := f.data, bytesDone := 0 }

/-- The checks from the lookup on, for a STORE (R153 to R156). -/
def State.routeStore (s : State) (f : StoreFields) (meets : Meeting) : State :=
  match lookupWindow s.windows false f.address.toNat with
  | none => (s.returnCredit .store).raise (.bridge .unmappedStore) none
  | some w =>
    let s := s.overtake w.bay meets
    if w.protects true then s.dropAtIntake w.bay .protectedWindow
    else
      match (s.bay w.bay).life.state.refusal with
      | some status => s.dropAtIntake w.bay status
      | none => s.append w.bay (.store (newStore f (w.translate f.address.toNat))) meets

/-- A STORE at intake (R147 to R156). -/
def State.intakeStore (s : State) (fields : Option StoreFields) (meets : Meeting) : State :=
  s.withCredit .store (fun s =>
    match fields with
    | none => s.discard .store .malformed
    | some f => if storeWellFormed f = false then s.discard .store .malformed else s.routeStore f meets)

/-- A MGMT packet at intake: handed to the Management Unit, which takes it at once (R152, R162; log 6). -/
def State.intakeMgmt (s : State) (seq : Byte) (command : State → CommandResult) : State :=
  s.withCredit .mgmt (fun s => s.acceptMgmt seq command)

/-- A MGMT packet without both a sequence number and a command code (R149). -/
def State.intakeMgmtShort (s : State) : State := s.withCredit .mgmt (fun s => s.discard .mgmt .malformed)

/-- A payload of no request kind (R150). -/
def State.intakeUnknown (s : State) : State :=
  if s.isUp then s.raise (.bridge .linkProtocol) (some .malformed) else s

/-- The arrival of a packet at intake (R147), with the event it meets between the steps of its arrival. -/
def State.intake (s : State) (p : Packet) (meets : Meeting) : State :=
  match p with
  | .fetch f => s.intakeRequest .fetch f meets
  | .store f => s.intakeStore f meets
  | .portFetch f => s.intakeRequest .portFetch f meets
  | .portStore f => s.intakeRequest .portStore f meets
  | .mgmt seq code operands => s.intakeMgmt seq (commandByCode code operands)
  | .mgmtShort => s.intakeMgmtShort
  | .unknownKind => s.intakeUnknown

end Sys2Proof.Machine
end

