-- ==== Sys2Proof/Machine/Arbiter.lean ====
section
/-! DEFINITION. The Transmit Arbiter: the choice among the candidates (R126, R127), and the placement of each class with
the release of its source (R128). -/

namespace Sys2Proof.Machine

/-- The classes of packets the arbiter chooses among (R126). -/
inductive PacketClass
  | grant | mgmtResp | answer | notice
  deriving DecidableEq, Repr

/-- The choice by class order alone (R127). -/
def State.classOrder (s : State) : Option PacketClass :=
  if s.ledger.grantWanted then some .grant
  else if s.mgmt.busy && s.mgmt.last.isSome then some .mgmtResp
  else if !s.answerOrder.isEmpty then some .answer
  else if !s.notice.queue.isEmpty then some .notice
  else none

/-- The class the arbiter places next (R126, R127): nothing unless the link is UP and the replay list has room; the head
NOTICE ahead of every class while the starvation count is 8. -/
def State.arbiterChoice (s : State) : Option PacketClass :=
  if s.isUp && decide (s.link.replay.length < Config.replayCapacity) then
    if decide (Config.starvationLimit ≤ s.starvation) && !s.notice.queue.isEmpty then some .notice
    else s.classOrder
  else none

/-- A placement of another class while a notice waits adds one to the starvation count (R127). -/
def State.countStarvation (s : State) : State :=
  if s.notice.queue.isEmpty then s else s.setStarvation (s.starvation + 1)

/-- The GRANT packet of the counts as they stand (R125). -/
def Ledger.packet (l : Ledger) : UpPacket :=
  .grant l.store.pendingReturn l.request.pendingReturn l.mgmt.pendingReturn

/-- The placement of a GRANT (R125). -/
def State.placeGrantNow (s : State) : State :=
  ((s.place s.ledger.packet).countStarvation).setLedger s.ledger.granted

/-- The reset timer and the frame of the response at the first placement of a pending BRIDGE_RESET's response; a later
response changes neither (R174; log 19). -/
def Mgmt.responsePlaced (m : Mgmt) (n : LinkSeq) : Mgmt :=
  if m.resetPending && m.resetFrame.isNone then
    { m with busy := false, resetTimer := true, resetFrame := some n }
  else { m with busy := false }

/-- The placement of the response on offer (R121, R163). -/
def State.placeResponseNow (s : State) (r : MgmtResp) : State :=
  (((s.place (.mgmtResp r)).countStarvation).setMgmt (s.mgmt.responsePlaced s.link.transmitNext)).freed .mgmt

/-- The ANSWER packet of an entry (R117): data for a fetch answered OK alone. -/
def OpenEntry.packet (e : OpenEntry) : UpPacket :=
  .answer e.tag (e.status.getD .ok) (if e.status = some .ok ∧ e.kind ≠ .portStore then e.data else [])

/-- The placement of the ANSWER of the head entry, which becomes FREE (R33, R117). -/
def State.placeAnswerNow (s : State) (e : OpenEntry) (rest : List OpenEntry) : State :=
  (((s.place e.packet).countStarvation).setAnswerOrder rest).freed .request

/-- The placement of the head notice record (R137). -/
def State.placeNoticeNow (s : State) (r : NoticeRecord) (rest : List NoticeRecord) : State :=
  ((s.place (.notice s.notice.nextSeq r.source r.kinds)).setNotice
    { s.notice with queue := rest, nextSeq := s.notice.nextSeq + 1 }).setStarvation 0

end Sys2Proof.Machine
end

