-- ==== Sys2Proof/Machine/ArbiterCommands.lean ====
section
/-! DEFINITION. The meanings of the commands of the credit ledger's timer (R124) and of the Transmit Arbiter (R126 to
R129). A placement that the arbiter would not make changes nothing (log 4). -/

namespace Sys2Proof.Machine

/-- The expiry of a running grant timer marks GRANT wanted while something is pending return (R124). -/
def Ledger.timerExpired (l : Ledger) : Ledger :=
  { l with grantTimer := false, grantExpired := l.grantExpired || decide (0 < l.pendingTotal) }

/-- GRANT_TIMER_EXPIRY (R124). -/
def execGrantTimerExpiry (s : State) : Host.Outcome State Fault Refusal :=
  .next (if s.ledger.grantTimer then s.setLedger s.ledger.timerExpired else s)

/-- PLACE_GRANT (R125 to R128). -/
def execPlaceGrant (s : State) : Host.Outcome State Fault Refusal :=
  .next (if s.arbiterChoice = some .grant then s.placeGrantNow else s)

/-- PLACE_MGMT_RESP (R121, R126 to R128, R163). -/
def execPlaceMgmtResp (s : State) : Host.Outcome State Fault Refusal :=
  .next (match s.mgmt.last with
    | some r => if s.arbiterChoice = some .mgmtResp then s.placeResponseNow r else s
    | none => s)

/-- PLACE_ANSWER (R33, R117, R126 to R128). -/
def execPlaceAnswer (s : State) : Host.Outcome State Fault Refusal :=
  .next (match s.answerOrder with
    | e :: rest => if s.arbiterChoice = some .answer then s.placeAnswerNow e rest else s
    | [] => s)

/-- PLACE_NOTICE (R126 to R128, R137). The event records are as they were: a kind placed keeps its announced, also where it
is no (log 35). -/
def execPlaceNotice (s : State) : Host.Outcome State Fault Refusal :=
  .next (match s.notice.queue with
    | r :: rest => if s.arbiterChoice = some .notice then s.placeNoticeNow r rest else s
    | [] => s)

end Sys2Proof.Machine
end

