-- ==== Sys2Proof/Machine/BayCommands.lean ====
section
/-! DEFINITION. The meanings of the commands of a bay's lifecycle: its lines, its timers, its removal filter, and the
report that its list has become empty (chapters 4 and 5). A command that the bay's state does not look at leaves the
lifecycle as it was (log 4). -/

namespace Sys2Proof.Machine

/-- A lifecycle state with the timer that belongs to it running (R74). -/
def Lifecycle.awaits (l : Lifecycle) (state : BayState) (timer : LifecycleTimer) : Bool :=
  (l.state == state) && (l.timer == some timer)

/-! ## Presence -/

/-- PRESENCE_CONTACT_ASSERTED (R77, R100). -/
def execPresenceContactAsserted (b : BayId) (c : Contact) (s : State) : Host.Outcome State Fault Refusal :=
  .next (s.setBay b ((s.bay b).contactAsserted c))

/-- PRESENCE_CONTACT_DEASSERTED (R78, R100). -/
def execPresenceContactDeasserted (b : BayId) (c : Contact) (s : State) : Host.Outcome State Fault Refusal :=
  .next (s.setBay b ((s.bay b).contactDeasserted c))

/-- STABLE_PRESENCE_EXPIRY: IDENTIFYING is entered and INSERTED raised (R78). -/
def execStablePresenceExpiry (b : BayId) (s : State) : Host.Outcome State Fault Refusal :=
  .next (if (s.bay b).life.awaits .settling .stablePresence then
      (s.setBay b (s.bay b).enterIdentifying).raise (.bay b .inserted) none
    else s)

/-- REMOVAL_TIMER_EXPIRY: the removal (R100, R101). -/
def execRemovalTimerExpiry (b : BayId) (s : State) : Host.Outcome State Fault Refusal :=
  .next (s.takeRemoval b)

/-! ## Identification and power -/

/-- The class auto_power chooses: L where the module supports it, else H (R80). -/
def ModuleClass.autoSupply (c : ModuleClass) : Supply := if c.supports .l then .l else .h

/-- The module class is set and IDENTIFYING is left (R79, R80). -/
def State.identify (s : State) (b : BayId) (c : ModuleClass) : State :=
  let s := s.updLife b (fun l => { l with moduleClass := some c, timer := none })
  if c = .unrecognized then s.enterFaulted b .unrecognized
  else if (s.bay b).life.policy.autoPower then s.setBay b ((s.bay b).enterPowering c.autoSupply)
  else s.updLife b (fun l => { l with state := .unpowered })

/-- SENSE_SETTLE_EXPIRY: the sense lines are sampled (R79, R80). -/
def execSenseSettleExpiry (b : BayId) (sense1 sense0 : Bool) (s : State) : Host.Outcome State Fault Refusal :=
  .next (if (s.bay b).life.awaits .identifying .senseSettle then s.identify b (senseClass sense1 sense0) else s)

/-- POWERING awaits PGOOD (R82). -/
def Lifecycle.awaitsPgood (l : Lifecycle) : Bool := (l.state == .powering) && (l.phase == some .awaitingPgood)

/-- PGOOD_ARRIVAL: in AWAITING_PGOOD the settle begins (R82). -/
def execPgoodArrival (b : BayId) (s : State) : Host.Outcome State Fault Refusal :=
  .next (if (s.bay b).life.awaitsPgood then (s.setPgood b true).updLife b Lifecycle.pgoodArrived
    else s.setPgood b true)

/-- POWER_GOOD_WAIT_EXPIRY: FAULTED with POWER_FAIL (R82). -/
def execPowerGoodWaitExpiry (b : BayId) (s : State) : Host.Outcome State Fault Refusal :=
  .next (if (s.bay b).life.awaits .powering .powerGoodWait then s.enterFaulted b .powerFail else s)

/-- POWER_SETTLE_EXPIRY: RESETTING is entered (R82, R84). -/
def execPowerSettleExpiry (b : BayId) (s : State) : Host.Outcome State Fault Refusal :=
  .next (if (s.bay b).life.awaits .powering .powerSettle then
      s.updLife b (fun l => { l with state := .resetting, phase := none, timer := some .moduleReset })
    else s)

/-- PGOOD_LOSS: a watched loss faults the bay with POWER_FAIL (R83). -/
def execPgoodLoss (b : BayId) (s : State) : Host.Outcome State Fault Refusal :=
  .next (s.takePgoodLoss b)

/-! ## Module reset and the ready wait -/

/-- MRDY has arrived: the ready timer stops and the profile header is to be read (R85, R68). -/
def State.takeMrdy (s : State) (b : BayId) : State :=
  (s.updLife b (fun l => { l with mrdySeen := true, timer := none })).startProfileRead b

/-- MRST is released, PROFILING is entered and the ready timer starts (R84). -/
def Lifecycle.released (l : Lifecycle) : Lifecycle :=
  { l with state := .profiling, mrstAsserted := false, mrdySeen := false, timer := some .ready }

/-- MODULE_RESET_EXPIRY: PROFILING is entered; an asserted MRDY arrives at the entry (R84, R85). -/
def execModuleResetExpiry (b : BayId) (mrdy : Bool) (s : State) : Host.Outcome State Fault Refusal :=
  .next (if (s.bay b).life.awaits .resetting .moduleReset then
      if mrdy then (s.updLife b Lifecycle.released).takeMrdy b else s.updLife b Lifecycle.released
    else s)

/-- MRDY_ARRIVAL: looked at in PROFILING with MRDY seen no (R85). -/
def execMrdyArrival (b : BayId) (s : State) : Host.Outcome State Fault Refusal :=
  .next (if (s.bay b).life.state = .profiling ∧ (s.bay b).life.mrdySeen = false then s.takeMrdy b else s)

/-- READY_TIMER_EXPIRY: FAULTED with READY_TIMEOUT (R85). -/
def execReadyTimerExpiry (b : BayId) (s : State) : Host.Outcome State Fault Refusal :=
  .next (if (s.bay b).life.awaits .profiling .ready then s.enterFaulted b .readyTimeout else s)

/-! ## In service -/

/-- Attention is supported by the module of a READY bay (R90). -/
def Lifecycle.watchesAttention (l : Lifecycle) : Bool :=
  match l.state, l.summary with
  | .ready, some p => p.attentionSupported
  | _, _ => false

/-- ATTN_RISING_EDGE: ATTENTION is raised in READY when the module supports it (R90). -/
def execAttnRisingEdge (b : BayId) (s : State) : Host.Outcome State Fault Refusal :=
  .next (if (s.bay b).life.watchesAttention then s.raise (.bay b .attention) none else s)

/-- QUIESCE_COMPLETION: a QUIESCING bay whose list has become empty is shut down (R112). -/
def execQuiesceCompletion (b : BayId) (s : State) : Host.Outcome State Fault Refusal :=
  .next (s.takeQuiesceCompletion b)

end Sys2Proof.Machine
end

