-- ==== Sys2Proof/Machine/Reports.lean ====
section
/-! DEFINITION. The ending of a bay cycle by the access timer (R63), and the UNRESPONSIVE report that the fourth request in
a row to time out brings (R67), with the event that may reach the lifecycle controller ahead of it (R104, R112). -/

namespace Sys2Proof.Machine

/-- What the lifecycle controller takes between the end of the fourth timed-out request and the UNRESPONSIVE report
(R67, R104, R112; log 17). -/
def State.takeBefore (s : State) (b : BayId) : BeforeReport → State
  | .nothing => s
  | .quiesceCompletion => s.takeQuiesceCompletion b
  | .removal => s.takeRemoval b
  | .pgoodLoss => s.takePgoodLoss b
  | .quiesce seq operands => s.intakeMgmt seq (commandQuiesce operands)

/-- The UNRESPONSIVE report at the lifecycle controller: it faults a bay in READY or QUIESCING and has no effect on any
other (R67, R91). -/
def State.reportUnresponsive (s : State) (b : BayId) : State :=
  if (s.bay b).life.state.served then s.enterFaulted b .unresponsive else s

/-- The end of a request by its access timer: when the streak reaches 4 the UNRESPONSIVE report follows, and else the next
head is started (R51, R65, R66, R67). -/
def State.timeoutRequest (s : State) (b : BayId) (before : BeforeReport) : State :=
  if (s.bay b).engine.timeoutStreak = 3 then
    ((s.finishRequest b .bayTimeout).takeBefore b before).reportUnresponsive b
  else s.endRequest b .bayTimeout

/-- The expiry of the access timer: the cycle is abandoned, the bus is free, and the request or the profile read ends
(R63, R65, R69, R72). -/
def State.timeoutCycle (s : State) (b : BayId) (before : BeforeReport) : State :=
  let s := s.releaseBus b
  match (s.bay b).engine.work with
  | .none => s.updEngine b Engine.cleared
  | .profileRead => s.profileOutcome b none
  | .request =>
    if (s.bay b).engine.stopAfterCycle then s.endRequest b .quiesced else s.timeoutRequest b before

end Sys2Proof.Machine
end

