-- ==== Sys2Proof/Machine/BusCommands.lean ====
section
/-! DEFINITION. The meanings of the commands of the bay bus: the grant, and the three endings of a cycle (R57 to R65).
A command that finds no cycle to act on changes nothing (log 4). -/

namespace Sys2Proof.Machine

/-- BUS_GRANT: the arbiter grants a free bus to the first waiting engine from its pointer on (R57). R57 and R58 grant an
engine that reaches a free bus at its arrival. The grant is a command of its own here, as the table has it, and other
events, another engine's arrival among them, may be taken between the two (DESIGN CHOICE, log 32). -/
def execBusGrant (s : State) : Host.Outcome State Fault Refusal :=
  .next (match s.grantee with
    | some b => s.grantBus b
    | none => s)

/-- The cycle that the bay's engine has under way, with what it took at its start. -/
def Engine.running (e : Engine) : Option (Cycle × CycleRun) :=
  match e.state, e.cycle with
  | .inCycle, some c => c.run.map (fun r => (c, r))
  | .inCycle, none | .idle, _ | .awaitingBus, _ => none

/-- The minimum length of the bay's cycle has passed with WAIT asserted: the cycle waits for its release (R60). -/
def Engine.held (e : Engine) (c : Cycle) (r : CycleRun) : Engine :=
  { e with cycle := some { c with run := some { r with minElapsed := true } } }

/-- CYCLE_MIN_LENGTH_EXPIRY: the cycle ends, or waits for the release of WAIT (R60, R61). -/
def execCycleMinLengthExpiry (b : BayId) (wait error : Bool) (lanes : BitVec 16) (s : State) :
    Host.Outcome State Fault Refusal :=
  .next (match (s.bay b).engine.running with
    | some (c, r) =>
      if r.minElapsed then s
      else if wait then s.updEngine b (fun e => e.held c r)
      else s.endCycle b c error lanes
    | none => s)

/-- WAIT_RELEASE: a cycle whose minimum length has passed ends (R60, R61). -/
def execWaitRelease (b : BayId) (error : Bool) (lanes : BitVec 16) (s : State) : Host.Outcome State Fault Refusal :=
  .next (match (s.bay b).engine.running with
    | some (c, r) => if r.minElapsed then s.endCycle b c error lanes else s
    | none => s)

/-- ACCESS_TIMER_EXPIRY: the cycle is abandoned (R63, R65 to R67). -/
def execAccessTimerExpiry (b : BayId) (before : BeforeReport) (s : State) : Host.Outcome State Fault Refusal :=
  .next (match (s.bay b).engine.running with
    | some _ => s.timeoutCycle b before
    | none => s)

end Sys2Proof.Machine
end

