-- ==== Sys2Proof/Machine/IntakeCommands.lean ====
section
/-! DEFINITION. The meanings of the packets at intake that are not management commands (R147 to R156). Each is the
arrival of one packet; the frame that carried it is the link unit's affair (log 5). -/

namespace Sys2Proof.Machine

/-- FETCH at intake. -/
def execFetch (a : Arrival (Option RequestFields)) (s : State) : Host.Outcome State Fault Refusal :=
  .next (s.intakeRequest .fetch a.content a.meets)

/-- STORE at intake. -/
def execStore (a : Arrival (Option StoreFields)) (s : State) : Host.Outcome State Fault Refusal :=
  .next (s.intakeStore a.content a.meets)

/-- PORT_FETCH at intake. -/
def execPortFetch (a : Arrival (Option RequestFields)) (s : State) : Host.Outcome State Fault Refusal :=
  .next (s.intakeRequest .portFetch a.content a.meets)

/-- PORT_STORE at intake. -/
def execPortStore (a : Arrival (Option RequestFields)) (s : State) : Host.Outcome State Fault Refusal :=
  .next (s.intakeRequest .portStore a.content a.meets)

/-- UNKNOWN_PACKET_KIND: a payload that is taken for the packet its bytes spell, which is of no request kind when the
command is well formed (R150). -/
def execUnknownPacketKind (kind : Byte) (body : List Byte) (s : State) : Host.Outcome State Fault Refusal :=
  .next (s.intake (packetOf (kind :: body)) .nothing)

/-- MALFORMED_MGMT_PACKET: a MGMT packet without both a sequence number and a command code (R149). -/
def execMalformedMgmtPacket (_seq : Option Byte) (s : State) : Host.Outcome State Fault Refusal :=
  .next s.intakeMgmtShort

end Sys2Proof.Machine
end

