-- ==== Sys2Proof/Machine/LinkCommands.lean ====
section
/-! DEFINITION. The meanings of the commands of the two resets and of the trunk link: PWRON, the link timers, the frames
received, the receive signal, and the end of a frame sent. A command whose event cannot take place in the state it meets
changes nothing (log 4). -/

namespace Sys2Proof.Machine

/-! ## The two resets -/

/-- POWER_ON_RESET: every block takes its power-on values, the link epoch is 0 and the straps are sampled (R167, R175,
R177). -/
def execPowerOnReset (straps : BitVec 4) (s : State) : Host.Outcome State Fault Refusal := .next (s.resetAll 0 straps)

/-- RESET_TIMER_EXPIRY: a pending BRIDGE_RESET is carried out (R174, R175). -/
def execResetTimerExpiry (s : State) : Host.Outcome State Fault Refusal :=
  .next (if s.mgmt.resetTimer && s.mgmt.resetPending then s.deferredReset else s)

/-! ## Training -/

/-- HOLD_OFF_EXPIRY: DOWN becomes TRAINING (R178, R179). -/
def execHoldOffExpiry (s : State) : Host.Outcome State Fault Refusal :=
  .next (if s.link.state = .down ∧ s.link.timers.holdOff = true then s.setLink s.link.enterTraining else s)

/-- TRAIN_INTERVAL_EXPIRY: a TRAIN is sent, which may complete the conditions for UP (R179, R180). -/
def execTrainIntervalExpiry (s : State) : Host.Outcome State Fault Refusal :=
  .next (if s.link.state = .training ∧ s.link.timers.trainInterval = true then
      (s.setLink s.link.sendTrain).enterUpIfTrained
    else s)

/-- TRAINING_TIMER_EXPIRY: TRAINING returns to DOWN, neither counted nor reported (R180). -/
def execTrainingTimerExpiry (s : State) : Host.Outcome State Fault Refusal :=
  .next (if s.link.state = .training ∧ s.link.timers.training = true then s.setLink s.link.enterDown else s)

/-- TRAIN_RECEIVED: counted in TRAINING (R180), discarded in UP (R184) and in DOWN (R178). The epoch field is not used
(R179). -/
def execTrainReceived (ready : Bool) (_epoch : Byte) (s : State) : Host.Outcome State Fault Refusal :=
  .next (if s.link.state = .training then (s.setLink (s.link.countTrain ready)).enterUpIfTrained else s)

/-! ## Receiving in UP -/

/-- BAD_FRAME_RECEIVED: counted in TRAINING and in UP; in TRAINING the count in a row returns to 0 (R180), in UP a RESEND
may be sent (R182). -/
def execBadFrameReceived (s : State) : Host.Outcome State Fault Refusal :=
  .next (match s.link.state with
    | .down => s
    | .training => s.setLink { s.link.countBad with trainsInRow := 0 }
    | .up => s.setLink s.link.countBad.sendResend)

/-- SEQUENCED_FRAME_RECEIVED: accepted and handed to intake, a duplicate, or a gap (R183, R184); discarded outside UP
(R178, R180). -/
def execSequencedFrameReceived (seq : LinkSeq) (payload : Arrival (List Byte)) (s : State) :
    Host.Outcome State Fault Refusal :=
  .next (if s.link.state = .up then
      if seq = s.link.receiveExpected then (s.setLink s.link.activity.accept).intake (packetOf payload.content) payload.meets
      else if s.link.isDuplicate seq then s.setLink s.link.activity.sendAck
      else s.setLink s.link.activity.sendResend
    else s)

/-- ACK_TIMER_EXPIRY: an ACK is sent (R183). -/
def execAckTimerExpiry (s : State) : Host.Outcome State Fault Refusal :=
  .next (if s.link.state = .up ∧ s.link.timers.ack = true then s.setLink s.link.sendAck else s)

/-- ACK_RECEIVED (R184, R186). -/
def execAckReceived (n : LinkSeq) (s : State) : Host.Outcome State Fault Refusal :=
  .next (if s.link.state = .up then s.takeAck n else s)

/-- RESEND_RECEIVED (R184, R186). -/
def execResendReceived (n : LinkSeq) (s : State) : Host.Outcome State Fault Refusal :=
  .next (if s.link.state = .up then s.setLink (s.link.takeResend n) else s)

/-- IDLE_RECEIVED: discarded, but receive activity (R184). -/
def execIdleReceived (s : State) : Host.Outcome State Fault Refusal :=
  .next (if s.link.state = .up then s.setLink s.link.activity else s)

/-! ## Leaving UP -/

/-- RECEIVE_SIGNAL_LOSS (R180, R184, R189). -/
def execReceiveSignalLoss (s : State) : Host.Outcome State Fault Refusal := .next s.takeSignalLoss

/-- SILENCE_TIMER_EXPIRY (R184, R189). -/
def execSilenceTimerExpiry (s : State) : Host.Outcome State Fault Refusal := .next s.takeSilenceExpiry

/-- REPLAY_TIMER_EXPIRY (R187). -/
def execReplayTimerExpiry (s : State) : Host.Outcome State Fault Refusal := .next s.takeReplayExpiry

/-! ## Sending -/

/-- KEEPALIVE_EXPIRY: an IDLE is sent (R188). The timer runs again from the end of the next frame (log 12). -/
def execKeepaliveExpiry (s : State) : Host.Outcome State Fault Refusal :=
  .next (if s.link.state = .up ∧ s.link.timers.keepalive = true then s.setLink s.link.sendIdle else s)

/-- FRAME_TRANSMISSION_END: the next waiting frame begins, and in UP the keepalive timer restarts (R185, R188). -/
def execFrameTransmissionEnd (s : State) : Host.Outcome State Fault Refusal :=
  .next (if s.link.tx.current.isSome then s.setLink s.link.frameEnd else s)

end Sys2Proof.Machine
end

