-- ==== Sys2Proof/Machine/MgmtCommands.lean ====
section
/-! DEFINITION. The meanings of the management commands: each is a MGMT packet at intake, which is an overrun without a
credit (R148), a replay of the last response when its sequence number repeats, and else an execution of the command
(R162, R165). The bodies of the commands stand in Machine/Management.lean. -/

namespace Sys2Proof.Machine

/-- IDENTIFY (R167). -/
def execIdentify (seq : Byte) (operands : List Byte) (s : State) : Host.Outcome State Fault Refusal :=
  .next (s.intakeMgmt seq (commandIdentify operands))

/-- WINDOW_WRITE (R17 to R19). -/
def execWindowWrite (seq : Byte) (operands : List Byte) (s : State) : Host.Outcome State Fault Refusal :=
  .next (s.intakeMgmt seq (commandWindowWrite operands))

/-- WINDOW_READ (R20). -/
def execWindowRead (seq : Byte) (operands : List Byte) (s : State) : Host.Outcome State Fault Refusal :=
  .next (s.intakeMgmt seq (commandWindowRead operands))

/-- WINDOW_CLEAR (R21). -/
def execWindowClear (seq : Byte) (operands : List Byte) (s : State) : Host.Outcome State Fault Refusal :=
  .next (s.intakeMgmt seq (commandWindowClear operands))

/-- WINDOW_CLEAR_BAY (R22). -/
def execWindowClearBay (seq : Byte) (operands : List Byte) (s : State) : Host.Outcome State Fault Refusal :=
  .next (s.intakeMgmt seq (commandWindowClearBay operands))

/-- BAY_STATUS (R168). -/
def execBayStatus (seq : Byte) (operands : List Byte) (s : State) : Host.Outcome State Fault Refusal :=
  .next (s.intakeMgmt seq (commandBayStatus operands))

/-- BAY_POLICY (R95). -/
def execBayPolicy (seq : Byte) (operands : List Byte) (s : State) : Host.Outcome State Fault Refusal :=
  .next (s.intakeMgmt seq (commandBayPolicy operands))

/-- POWER_ON (R81). -/
def execPowerOn (seq : Byte) (operands : List Byte) (s : State) : Host.Outcome State Fault Refusal :=
  .next (s.intakeMgmt seq (commandPowerOn operands))

/-- QUIESCE (R107 to R113). -/
def execQuiesce (seq : Byte) (operands : List Byte) (s : State) : Host.Outcome State Fault Refusal :=
  .next (s.intakeMgmt seq (commandQuiesce operands))

/-- BAY_RESTART (R93). -/
def execBayRestart (seq : Byte) (operands : List Byte) (s : State) : Host.Outcome State Fault Refusal :=
  .next (s.intakeMgmt seq (commandBayRestart operands))

/-- EVENT_READ (R141). -/
def execEventRead (seq : Byte) (operands : List Byte) (s : State) : Host.Outcome State Fault Refusal :=
  .next (s.intakeMgmt seq (commandEventRead operands))

/-- EVENT_ENABLE (R138). -/
def execEventEnable (seq : Byte) (operands : List Byte) (s : State) : Host.Outcome State Fault Refusal :=
  .next (s.intakeMgmt seq (commandEventEnable operands))

/-- EVENT_CLEAR (R139). -/
def execEventClear (seq : Byte) (operands : List Byte) (s : State) : Host.Outcome State Fault Refusal :=
  .next (s.intakeMgmt seq (commandEventClear operands))

/-- EVENT_INJECT (R140). -/
def execEventInject (seq : Byte) (operands : List Byte) (s : State) : Host.Outcome State Fault Refusal :=
  .next (s.intakeMgmt seq (commandEventInject operands))

/-- COUNTERS_READ (R171). -/
def execCountersRead (seq : Byte) (operands : List Byte) (s : State) : Host.Outcome State Fault Refusal :=
  .next (s.intakeMgmt seq (commandCountersRead operands))

/-- BRIDGE_RESET (R173). -/
def execBridgeReset (seq : Byte) (operands : List Byte) (s : State) : Host.Outcome State Fault Refusal :=
  .next (s.intakeMgmt seq (commandBridgeReset operands))

/-- MGMT_SEQUENCE_REPLAY: the code and operands are examined only when the number does not repeat (R162). -/
def execMgmtSequenceReplay (seq code : Byte) (operands : List Byte) (s : State) : Host.Outcome State Fault Refusal :=
  .next (s.intakeMgmt seq (commandByCode code operands))

/-- UNKNOWN_COMMAND: a code outside R166 is answered BAD_COMMAND (R165). -/
def execUnknownCommand (seq code : Byte) (operands : List Byte) (s : State) : Host.Outcome State Fault Refusal :=
  .next (s.intakeMgmt seq (commandByCode code operands))

end Sys2Proof.Machine
end

