-- ==== Sys2Proof/Machine/Dispatch.lean ====
section
/-! DEFINITION. The meaning of every command: one arm per row of spec/opcode_table.json. -/

namespace Sys2Proof.Machine

/-- The effect of a command on everything but the queue. -/
def exec (i : Instr) (s : State) : Host.Outcome State Fault Refusal :=
  match i with
  | .powerOnReset straps => Sys2Proof.Machine.execPowerOnReset straps s
  | .holdOffExpiry => Sys2Proof.Machine.execHoldOffExpiry s
  | .trainIntervalExpiry => Sys2Proof.Machine.execTrainIntervalExpiry s
  | .trainingTimerExpiry => Sys2Proof.Machine.execTrainingTimerExpiry s
  | .trainReceived ready epoch => Sys2Proof.Machine.execTrainReceived ready epoch s
  | .badFrameReceived => Sys2Proof.Machine.execBadFrameReceived s
  | .sequencedFrameReceived seq payload => Sys2Proof.Machine.execSequencedFrameReceived seq payload s
  | .ackTimerExpiry => Sys2Proof.Machine.execAckTimerExpiry s
  | .ackReceived n => Sys2Proof.Machine.execAckReceived n s
  | .resendReceived n => Sys2Proof.Machine.execResendReceived n s
  | .idleReceived => Sys2Proof.Machine.execIdleReceived s
  | .receiveSignalLoss => Sys2Proof.Machine.execReceiveSignalLoss s
  | .silenceTimerExpiry => Sys2Proof.Machine.execSilenceTimerExpiry s
  | .replayTimerExpiry => Sys2Proof.Machine.execReplayTimerExpiry s
  | .keepaliveExpiry => Sys2Proof.Machine.execKeepaliveExpiry s
  | .fetch packet => Sys2Proof.Machine.execFetch packet s
  | .store packet => Sys2Proof.Machine.execStore packet s
  | .portFetch packet => Sys2Proof.Machine.execPortFetch packet s
  | .portStore packet => Sys2Proof.Machine.execPortStore packet s
  | .unknownPacketKind kind body => Sys2Proof.Machine.execUnknownPacketKind kind body s
  | .busGrant => Sys2Proof.Machine.execBusGrant s
  | .cycleMinLengthExpiry bay wait error lanes => Sys2Proof.Machine.execCycleMinLengthExpiry bay wait error lanes s
  | .waitRelease bay error lanes => Sys2Proof.Machine.execWaitRelease bay error lanes s
  | .accessTimerExpiry bay before => Sys2Proof.Machine.execAccessTimerExpiry bay before s
  | .presenceContactAsserted bay contact => Sys2Proof.Machine.execPresenceContactAsserted bay contact s
  | .presenceContactDeasserted bay contact => Sys2Proof.Machine.execPresenceContactDeasserted bay contact s
  | .stablePresenceExpiry bay => Sys2Proof.Machine.execStablePresenceExpiry bay s
  | .senseSettleExpiry bay sense1 sense0 => Sys2Proof.Machine.execSenseSettleExpiry bay sense1 sense0 s
  | .pgoodArrival bay => Sys2Proof.Machine.execPgoodArrival bay s
  | .powerGoodWaitExpiry bay => Sys2Proof.Machine.execPowerGoodWaitExpiry bay s
  | .powerSettleExpiry bay => Sys2Proof.Machine.execPowerSettleExpiry bay s
  | .pgoodLoss bay => Sys2Proof.Machine.execPgoodLoss bay s
  | .moduleResetExpiry bay mrdy => Sys2Proof.Machine.execModuleResetExpiry bay mrdy s
  | .mrdyArrival bay => Sys2Proof.Machine.execMrdyArrival bay s
  | .readyTimerExpiry bay => Sys2Proof.Machine.execReadyTimerExpiry bay s
  | .attnRisingEdge bay => Sys2Proof.Machine.execAttnRisingEdge bay s
  | .removalTimerExpiry bay => Sys2Proof.Machine.execRemovalTimerExpiry bay s
  | .quiesceCompletion bay => Sys2Proof.Machine.execQuiesceCompletion bay s
  | .grantTimerExpiry => Sys2Proof.Machine.execGrantTimerExpiry s
  | .placeGrant => Sys2Proof.Machine.execPlaceGrant s
  | .placeMgmtResp => Sys2Proof.Machine.execPlaceMgmtResp s
  | .placeAnswer => Sys2Proof.Machine.execPlaceAnswer s
  | .placeNotice => Sys2Proof.Machine.execPlaceNotice s
  | .mgmtSequenceReplay seq code operands => Sys2Proof.Machine.execMgmtSequenceReplay seq code operands s
  | .unknownCommand seq code operands => Sys2Proof.Machine.execUnknownCommand seq code operands s
  | .identify seq operands => Sys2Proof.Machine.execIdentify seq operands s
  | .windowWrite seq operands => Sys2Proof.Machine.execWindowWrite seq operands s
  | .windowRead seq operands => Sys2Proof.Machine.execWindowRead seq operands s
  | .windowClear seq operands => Sys2Proof.Machine.execWindowClear seq operands s
  | .windowClearBay seq operands => Sys2Proof.Machine.execWindowClearBay seq operands s
  | .bayStatus seq operands => Sys2Proof.Machine.execBayStatus seq operands s
  | .bayPolicy seq operands => Sys2Proof.Machine.execBayPolicy seq operands s
  | .powerOn seq operands => Sys2Proof.Machine.execPowerOn seq operands s
  | .quiesce seq operands => Sys2Proof.Machine.execQuiesce seq operands s
  | .bayRestart seq operands => Sys2Proof.Machine.execBayRestart seq operands s
  | .eventRead seq operands => Sys2Proof.Machine.execEventRead seq operands s
  | .eventEnable seq operands => Sys2Proof.Machine.execEventEnable seq operands s
  | .eventClear seq operands => Sys2Proof.Machine.execEventClear seq operands s
  | .eventInject seq operands => Sys2Proof.Machine.execEventInject seq operands s
  | .countersRead seq operands => Sys2Proof.Machine.execCountersRead seq operands s
  | .bridgeReset seq operands => Sys2Proof.Machine.execBridgeReset seq operands s
  | .resetTimerExpiry => Sys2Proof.Machine.execResetTimerExpiry s
  | .frameTransmissionEnd => Sys2Proof.Machine.execFrameTransmissionEnd s
  | .malformedMgmtPacket seq => Sys2Proof.Machine.execMalformedMgmtPacket seq s

end Sys2Proof.Machine
end

