-- ==== Sys2Proof/Safety.lean ====
section
/-! DEFINITION. The laws of the device: what the spec says always holds between two events. Each is a property of one
state; that every step keeps it is stated in Certificates/Slice0/Obligations.lean. -/

namespace Sys2Proof.Machine

/-! ## The Window Table -/

/-- Every entry satisfies R17, and two valid entries of one family share no upstream address (R18). -/
def WindowLaw (t : WindowTable) : Prop :=
  (∀ i : Fin 32, t[i].legal = true) ∧
  ∀ i j : Fin 32, i ≠ j → t[i].valid = true → t[j].valid = true → t[i].overlaps t[j] = false

/-! ## The credit ledger -/

/-- While the link is UP, the entries in use, the credits outstanding and the credits pending return of each pool add up
to its size; while it is not UP both counts of every pool are 0 (R119). -/
def CreditLaw (s : State) : Prop :=
  (s.link.state = .up →
    s.storesInUse + s.ledger.store.outstanding + s.ledger.store.pendingReturn = Config.storePoolSize ∧
    s.requestsInUse + s.ledger.request.outstanding + s.ledger.request.pendingReturn = Config.requestPoolSize ∧
    s.mgmtInUse + s.ledger.mgmt.outstanding + s.ledger.mgmt.pendingReturn = Config.mgmtPoolSize) ∧
  (s.link.state ≠ .up → s.ledger.store = ⟨0, 0⟩ ∧ s.ledger.request = ⟨0, 0⟩ ∧ s.ledger.mgmt = ⟨0, 0⟩)

/-- No pool holds more entries than it has (R27, R29), and no MGMT entry is in use while the link is not UP (R121). -/
def PoolLaw (s : State) : Prop :=
  s.storesInUse ≤ Config.storePoolSize ∧ s.requestsInUse ≤ Config.requestPoolSize ∧
  (s.link.state ≠ .up → s.mgmt.busy = false)

/-- Credit pending return has a running grant timer, or an expired one (R124). -/
def GrantTimerLaw (l : Ledger) : Prop := (l.grantTimer = true ∨ l.grantExpired = true) ↔ 0 < l.pendingTotal

/-! ## The Notice Unit -/

/-- An event record: the count is 0 exactly when the flag is clear, and at most 255 (R132); with the flag clear there is
no first reason and nothing is announced (R132, R139). -/
def EventRecord.Lawful (r : EventRecord) : Prop :=
  (r.count = 0 ↔ r.flag = false) ∧ r.count ≤ 255 ∧ (r.flag = false → r.firstReason = none ∧ r.announced = false)

/-- The notice queue: at most one record for each source, and no record without kinds or with a foreign one (R136). -/
def QueueLaw (q : List NoticeRecord) : Prop :=
  (q.map NoticeRecord.source).Nodup ∧ ∀ r ∈ q, r.kinds ≠ 0#8 ∧ r.kinds &&& ~~~r.source.kinds = 0#8

/-- The Notice Unit (R132, R136). -/
def NoticeLaw (n : NoticeUnit) : Prop := (∀ e : EventId, (n.record e).Lawful) ∧ QueueLaw n.queue

/-! ## The bays -/

/-- The supply enable is on in these states and no other (R76). -/
def BayState.powered : BayState → Bool
  | .powering | .resetting | .profiling | .ready | .quiescing => true
  | .empty | .settling | .identifying | .unpowered | .quiesced | .faulted => false

/-- MRST is released in these states and no other (R76). -/
def BayState.mrstReleased : BayState → Bool
  | .profiling | .ready | .quiescing => true
  | .empty | .settling | .identifying | .unpowered | .powering | .resetting | .quiesced | .faulted => false

/-- The lamp of a state (R76, R94). -/
def BayState.lamp : BayState → Lamp
  | .faulted => .blinking
  | .quiesced => .steady
  | .empty | .settling | .identifying | .unpowered | .powering | .resetting | .profiling | .ready | .quiescing => .off

/-- The lines of a controller follow its state (R76). -/
def Lifecycle.LinesLawful (l : Lifecycle) : Prop :=
  (l.supply ≠ .none ↔ l.state.powered = true) ∧ (l.mrstAsserted = false ↔ l.state.mrstReleased = true) ∧
  l.lamp = l.state.lamp

/-- The items of a controller that are present in some states alone (R73, R82, R88, R92, R99, R108). -/
def Lifecycle.ItemsLawful (l : Lifecycle) : Prop :=
  (l.phase.isSome = true ↔ l.state = .powering) ∧ (l.faultReason.isSome = true ↔ l.state = .faulted) ∧
  (l.summary.isSome = true ↔ l.state.served = true) ∧ (l.quiesceMode.isSome = true ↔ l.state = .quiescing) ∧
  (l.state.filtered = false → l.filter = .idle ∧ l.moduleClass = none) ∧
  (l.state.filtered = true → l.state ≠ .identifying → l.moduleClass.isSome = true)

/-- The lifecycle timer of a state and phase (R74, R85). -/
def Lifecycle.ownTimer (l : Lifecycle) : Option LifecycleTimer :=
  match l.state, l.phase with
  | .settling, _ => some .stablePresence
  | .identifying, _ => some .senseSettle
  | .powering, some .settlingPower => some .powerSettle
  | .powering, _ => some .powerGoodWait
  | .resetting, _ => some .moduleReset
  | .profiling, _ => if l.mrdySeen then none else some .ready
  | .empty, _ | .unpowered, _ | .ready, _ | .quiescing, _ | .quiesced, _ | .faulted, _ => none

/-- A lifecycle controller (R73, R74, R76). -/
def Lifecycle.Lawful (l : Lifecycle) : Prop := l.LinesLawful ∧ l.ItemsLawful ∧ l.timer = l.ownTimer

/-- What the contacts say of a bay: with both asserted it is not EMPTY, in SETTLING both are asserted, and from
IDENTIFYING on the filter times exactly while one is not (R77, R78, R100). -/
def Bay.PresenceLawful (bay : Bay) : Prop :=
  (bay.present = true → bay.life.state ≠ .empty) ∧ (bay.life.state = .settling → bay.present = true) ∧
  (bay.life.state.filtered = true → (bay.life.filter = .timing ↔ bay.present = false))

/-- Every bay's controller (R73 to R78, R99, R100). -/
def LifecycleLaw (s : State) : Prop := ∀ b : BayId, (s.bay b).life.Lawful ∧ (s.bay b).PresenceLawful

/-! ## The bay lists and the engines -/

/-- The engine of a bay without work has no cycle, and the list is empty (R37, R51); a request is the head of the list,
every entry behind it is QUEUED (R37, R50); a profile read runs in PROFILING after MRDY was
seen, with an empty list (R68, R85). -/
def Bay.EngineLawful (bay : Bay) : Prop :=
  match bay.engine.work with
  | .none => bay.engine.state = .idle ∧ bay.list = []
  | .request =>
    bay.engine.state ≠ .idle ∧ bay.life.state.served = true ∧
    ∃ head rest, bay.list = head :: rest ∧ head.isQueued = false ∧ ∀ e ∈ rest, e.isQueued = true
  | .profileRead =>
    bay.engine.state ≠ .idle ∧ bay.life.state = .profiling ∧ bay.life.mrdySeen = true ∧ bay.list = []

/-- A cycle is present exactly while the engine is not IDLE, and has started exactly while it is IN_CYCLE (R50). -/
def Engine.CycleLawful (e : Engine) : Prop :=
  (e.cycle.isSome = true ↔ e.state ≠ .idle) ∧
  (e.running.isSome = true ↔ e.state = .inCycle) ∧
  (e.effectiveWidth.isSome = true ↔ e.work = .request) ∧ (e.effectiveWaitClass.isSome = true ↔ e.work = .request)

/-- An entry of a bay's list is of that bay, has bytes left, and is not ANSWER_READY (R35, R55). -/
def Entry.Lawful (b : BayId) (e : Entry) : Prop :=
  (∃ p, e.snap = some p ∧ p.bay = b) ∧ e.bytesDone < e.length ∧
  match e with
  | .store _ => True
  | .request r => r.state ≠ .answerReady ∧ r.status = none

/-- Every bay's list and engine (R35, R37, R39, R50). -/
def BayListLaw (s : State) : Prop :=
  ∀ b : BayId, (s.bay b).EngineLawful ∧ (s.bay b).engine.CycleLawful ∧ ∀ e ∈ (s.bay b).list, e.Lawful b

/-- The bus carries a cycle exactly of the engine that is IN_CYCLE (R56, R57). -/
def BusLaw (s : State) : Prop :=
  ∀ b : BayId, (s.bay b).engine.state = .inCycle ↔ ∃ c, s.bus.driven = some c ∧ c.bay = b

/-- The answer order list holds ANSWER_READY entries with a status (R40). -/
def AnswerLaw (s : State) : Prop := ∀ e ∈ s.answerOrder, e.state = .answerReady ∧ e.status.isSome = true

/-- An open request that is QUEUED or ACTIVE in a bay list (R30). -/
def Entry.openTag : Entry → Option (BitVec 6)
  | .store _ => none
  | .request e => if e.state = .queued ∨ e.state = .active then some e.tag else none

/-- The tags in force (R30). -/
def State.tagsInForce (s : State) : List (BitVec 6) :=
  (s.bays.toList.flatMap (fun bay => bay.list.filterMap Entry.openTag)) ++ s.answerOrder.map OpenEntry.tag

/-- No two entries in QUEUED, ACTIVE or ANSWER_READY hold the same tag (R30). -/
def TagLaw (s : State) : Prop := s.tagsInForce.Nodup

/-- While the link is not UP no tag is in force: link loss has freed or orphaned every open request (R32, R44). -/
def DownLaw (s : State) : Prop := s.link.state ≠ .up → s.tagsInForce = []

/-! ## The trunk link -/

/-- The frames of a list carry consecutive numbers that run up to `next` (R185). -/
def RunsUpTo (next : LinkSeq) : List Frame → Prop
  | [] => True
  | f :: rest => f.seq = next - BitVec.ofNat 12 (rest.length + 1) ∧ RunsUpTo next rest

/-- The replay list: at most 16 frames with consecutive numbers (R185), empty while the link is not UP (R189); its timer
runs exactly while it is not empty (R185, R186). -/
def ReplayLaw (l : LinkUnit) : Prop :=
  l.replay.length ≤ Config.replayCapacity ∧ RunsUpTo l.transmitNext l.replay ∧
  (l.state ≠ .up → l.replay = []) ∧ (l.timers.replay = true ↔ l.replay ≠ []) ∧ l.attempts ≤ 3

/-- The receive side: an ACK is owed for at most 3 frames between events, and the ACK timer runs exactly while one is
owed (R183); nothing is owed while the link is not UP (R189). -/
def AckLaw (l : LinkUnit) : Prop :=
  l.ackOwed ≤ 3 ∧ (l.timers.ack = true ↔ 0 < l.ackOwed) ∧ (l.state ≠ .up → l.ackOwed = 0 ∧ l.resendSent = false)

/-- The timers of the link states (R178, R179, R181, R189). -/
def LinkTimerLaw (l : LinkUnit) : Prop :=
  (l.timers.holdOff = true ↔ l.state = .down) ∧ (l.timers.training = true ↔ l.state = .training) ∧
  (l.timers.trainInterval = true ↔ l.state = .training) ∧ (l.timers.silence = true ↔ l.state = .up) ∧
  (l.timers.keepalive = true → l.state = .up)

/-- The transmitter has nothing waiting without a frame under transmission, and sends nothing in DOWN (R178, R185). -/
def TransmitterLaw (l : LinkUnit) : Prop :=
  (l.tx.current = none → l.tx = .idle) ∧ (l.state = .down → l.tx = .idle)

/-- The link counters stay within 16 bits (R190). -/
def CounterLaw (c : LinkCounters) : Prop :=
  c.checkErrors ≤ 65535 ∧ c.resendsSent ≤ 65535 ∧ c.resendsReceived ≤ 65535 ∧ c.replayExhaustions ≤ 65535 ∧
  c.linkDowns ≤ 65535 ∧ c.overruns ≤ 65535

/-- The Trunk Link Unit (chapter 10). -/
def LinkLaw (l : LinkUnit) : Prop :=
  ReplayLaw l ∧ AckLaw l ∧ LinkTimerLaw l ∧ TransmitterLaw l ∧ CounterLaw l.counters

/-! ## The arbiter and the Management Unit -/

/-- The starvation count is at most 8, and 0 while the link is not UP (R127) or no notice waits. -/
def StarvationLaw (s : State) : Prop :=
  s.starvation ≤ Config.starvationLimit ∧ (s.link.state ≠ .up ∨ s.notice.queue = [] → s.starvation = 0)

/-- The management context: a response is on offer only when there is one, and only while the link is UP (R161, R163); a
reset is pending only while the link is UP, and its timer runs only while it is pending (R174). -/
def MgmtLaw (s : State) : Prop :=
  (s.mgmt.busy = true → s.mgmt.last.isSome = true ∧ s.link.state = .up) ∧
  (s.mgmt.resetPending = true → s.link.state = .up) ∧
  (s.mgmt.resetTimer = true ↔ s.mgmt.resetFrame.isSome = true) ∧
  (s.mgmt.resetTimer = true → s.mgmt.resetPending = true)

/-! ## Words of the statements -/

/-- The command that puts a FETCH, PORT_FETCH or PORT_STORE to intake. -/
def requestCommand : RequestKind → Arrival (Option RequestFields) → Instr
  | .fetch, a => .fetch a
  | .portFetch, a => .portFetch a
  | .portStore, a => .portStore a

/-- The sequence number, command code and operands of a command of the management family (R166). -/
def mgmtFields : Instr → Option (Byte × Byte × List Byte)
  | .mgmtSequenceReplay q code o => some (q, code, o)
  | .unknownCommand q code o => some (q, code, o)
  | .identify q o => some (q, 0x01, o)
  | .windowWrite q o => some (q, 0x10, o)
  | .windowRead q o => some (q, 0x11, o)
  | .windowClear q o => some (q, 0x12, o)
  | .windowClearBay q o => some (q, 0x13, o)
  | .bayStatus q o => some (q, 0x20, o)
  | .bayPolicy q o => some (q, 0x21, o)
  | .powerOn q o => some (q, 0x22, o)
  | .quiesce q o => some (q, 0x23, o)
  | .bayRestart q o => some (q, 0x24, o)
  | .eventRead q o => some (q, 0x30, o)
  | .eventEnable q o => some (q, 0x31, o)
  | .eventClear q o => some (q, 0x32, o)
  | .eventInject q o => some (q, 0x33, o)
  | .countersRead q o => some (q, 0x40, o)
  | .bridgeReset q o => some (q, 0x7F, o)
  | _ => none

/-- The credit pool of a command that is a request packet (R119). -/
def requestPool : Instr → Option Pool
  | .fetch _ | .portFetch _ | .portStore _ => some .request
  | .store _ => some .store
  | .malformedMgmtPacket _ => some .mgmt
  | i => (mgmtFields i).map (fun _ => .mgmt)

/-- A MGMT packet with this sequence number is executed: the link is UP, a credit is there, and the number does not
repeat (R147, R148, R162). -/
def State.AcceptsMgmt (s : State) (seq : Byte) : Prop :=
  s.link.state = .up ∧ 0 < s.ledger.mgmt.outstanding ∧ s.mgmt.last.map MgmtResp.seq ≠ some seq

/-- The state after a command was executed: the state that holds the command's own effect, with the credit consumed, and
the response recorded and on offer (R148, R162). -/
def State.responded (after : State) (seq : Byte) (status : MgmtStatus) (results : List Byte) : State :=
  (after.setLedger
    { after.ledger with mgmt := ⟨after.ledger.mgmt.outstanding - 1, after.ledger.mgmt.pendingReturn⟩ }).setMgmt
    { after.mgmt with last := some { seq, status, results }, busy := true }

/-- A packet of the pool passes the credit check (R147, R148). -/
def State.HasCredit (s : State) (p : Pool) : Prop := s.link.state = .up ∧ 0 < (s.ledger.get p).outstanding

/-- The state after a packet of the pool has consumed its credit and gives it back at the same event (R120). -/
def State.passedThrough (s : State) (p : Pool) : State :=
  s.setLedger
    { s.ledger.set p ⟨(s.ledger.get p).outstanding - 1, (s.ledger.get p).pendingReturn + 1⟩ with
      grantTimer := s.ledger.grantTimer || (s.ledger.pendingTotal == 0) }

/-- The state after a packet of the pool has consumed its credit (R120). -/
def State.consumed (s : State) (p : Pool) : State :=
  s.setLedger (s.ledger.set p ⟨(s.ledger.get p).outstanding - 1, (s.ledger.get p).pendingReturn⟩)

/-- The state after one credit of the pool has gone to pending return (R120, R124). -/
def State.returned (s : State) (p : Pool) : State :=
  s.setLedger
    { s.ledger.set p ⟨(s.ledger.get p).outstanding, (s.ledger.get p).pendingReturn + 1⟩ with
      grantTimer := s.ledger.grantTimer || (s.ledger.pendingTotal == 0) }

/-- The state in which a request that hit a window of bay `b` meets protection and admission: the state of its lookup, or
the state after the removal that is taken in between (R15; log 28). -/
def Overtaken (s : State) (b : BayId) (meets : Meeting) (u : State) : Prop :=
  (meets ≠ .removal ∧ u = s) ∨ (meets = .removal ∧ exec (.removalTimerExpiry b) s = .next u)

/-- The command whose event a request meets between its append and its start, where it meets one there (R47; log 29). -/
def commandAtAppend : Meeting → Option Instr
  | .nothing | .removal => none
  | .signalLoss => some .receiveSignalLoss
  | .silenceExpiry => some .silenceTimerExpiry
  | .replayExpiry => some .replayTimerExpiry

/-- The event that a request meets takes the link out of UP (R184, R187, R189). -/
def LinkUnit.IsLost (l : LinkUnit) (meets : Meeting) : Prop :=
  meets = .signalLoss ∨ (meets = .silenceExpiry ∧ l.timers.silence = true) ∨
  (meets = .replayExpiry ∧ l.timers.replay = true ∧ l.replay ≠ [] ∧ 3 ≤ l.attempts)

/-- A bay whose engine has started the request that is its whole list (R51, R52, R55). -/
def Bay.started (bay : Bay) (e : Entry) (snap : Snapshot) : Bay :=
  { bay with
    list := [e.activated],
    engine := { bay.engine with
      state := .awaitingBus, work := .request, effectiveWidth := some (deriveWidth bay.life.summary snap),
      effectiveWaitClass := some (deriveWaitClass bay.life.summary snap),
      cycle := some
        { address := snap.bayAddress, space := snap.space,
          wide := nextIsWide (deriveWidth bay.life.summary snap) snap.bayAddress e.length, write := e.isWrite,
          run := none } } }

/-- The command whose event is taken ahead of the UNRESPONSIVE report of bay `b` (log 17). -/
def commandBefore (b : BayId) : BeforeReport → Option Instr
  | .nothing => none
  | .quiesceCompletion => some (.quiesceCompletion b)
  | .removal => some (.removalTimerExpiry b)
  | .pgoodLoss => some (.pgoodLoss b)
  | .quiesce seq operands => some (.quiesce seq operands)

/-- The set of the kinds of a source that meet a condition. -/
def Source.kindsWhere (x : Source) (due : EventId → Bool) : BitVec 8 :=
  (x.events.filter due).foldl (fun kinds e => kinds ||| e.mask) 0#8

/-- A notice queue with kinds added for each source: in place where the source has a record, else as a new record at the
tail, the sources in the order bay 0 to bay 5, then BRIDGE (R134, R136, R138, R144). -/
def announcedQueue (kinds : Source → BitVec 8) (q : List NoticeRecord) : List NoticeRecord :=
  q.map (fun r => { r with kinds := r.kinds ||| kinds r.source }) ++
  (Source.all.filter (fun x => kinds x != 0#8 && q.all (fun r => r.source != x))).map
    (fun x => { source := x, kinds := kinds x })

/-- An event that joins the notice queue when the link reaches UP: one that is set, enabled and not announced, and
LINK_RESTORED where its raise sets it (R144). -/
def NoticeUnit.dueAtUp (n : NoticeUnit) (e : EventId) : Bool :=
  (n.record e).enable &&
  (((n.record e).flag && !(n.record e).announced) ||
   (!n.firstUp && decide (e = .bridge .linkRestored) && !(n.record e).flag))

/-- A bay's cycle on the bus, for the request at the head of its list, and not under stop-after-cycle. -/
def State.Serves (s : State) (b : BayId) (c : Cycle) (r : CycleRun) (head : Entry) (rest : List Entry) : Prop :=
  (s.bay b).engine.state = .inCycle ∧ (s.bay b).engine.cycle = some c ∧ c.run = some r ∧
  (s.bay b).engine.work = .request ∧ (s.bay b).list = head :: rest ∧ (∃ d, s.bus.driven = some d ∧ d.bay = b)

/-- The two events that end a cycle by the module, with ERROR and the data lanes as sampled there: the minimum length
with WAIT not asserted, and the release of WAIT after the minimum length (R60). -/
def EndsCycle (i : Instr) (b : BayId) (r : CycleRun) (error : Bool) (lanes : BitVec 16) : Prop :=
  (i = .cycleMinLengthExpiry b false error lanes ∧ r.minElapsed = false) ∨
  (i = .waitRelease b error lanes ∧ r.minElapsed = true)

/-- What the end of a request does with its entry (R65): a store is freed, and dropped unless the status is OK; an orphan
is freed; another open request becomes ANSWER_READY. -/
def EntryEnded (s t : State) (b : BayId) (status : AnswerStatus) : Entry → Prop
  | .store _ =>
    t.answerOrder = s.answerOrder ∧ t.ledger = (s.freed .store).ledger ∧
    (status = .ok → t.notice = s.notice) ∧
    (status ≠ .ok → t.notice = s.notice.raise (.bay b .storeDropped) status.dropReason)
  | .request e =>
    t.notice = s.notice ∧
    (e.state = .orphaned → t.answerOrder = s.answerOrder ∧ t.ledger = (s.freed .request).ledger) ∧
    (e.state ≠ .orphaned → t.answerOrder = s.answerOrder ++ [e.answered status] ∧ t.ledger = s.ledger)

/-- An engine without work (R37, R50). -/
def Engine.WithoutWork (e : Engine) : Prop :=
  e.state = .idle ∧ e.work = .none ∧ e.effectiveWidth = none ∧ e.effectiveWaitClass = none ∧ e.cycle = none ∧
  e.stopAfterCycle = false

/-- A bay's input lines are as they were. -/
def Bay.SameLines (old new : Bay) : Prop := new.presA = old.presA ∧ new.presB = old.presB ∧ new.pgood = old.pgood

/-- The bay after the end of a request, with the rest of its list: the engine is without work when the list is empty, and
else serves the next head, whose first cycle waits for the bus (R51, R52, R65). -/
def NextHeadServed (s t : State) (b : BayId) (streak : Nat) (rest : List Entry) : Prop :=
  (rest = [] → (t.bay b).list = [] ∧ (t.bay b).engine.WithoutWork ∧ (t.bay b).engine.timeoutStreak = streak) ∧
  (∀ next behind p, rest = next :: behind → next.snap = some p →
    (t.bay b).list = next.activated :: behind ∧
    (t.bay b).engine =
      { (s.bay b).engine with
        state := .awaitingBus, work := .request, stopAfterCycle := false, timeoutStreak := streak,
        effectiveWidth := some (deriveWidth (s.bay b).life.summary p),
        effectiveWaitClass := some (deriveWaitClass (s.bay b).life.summary p),
        cycle := some
          { address := p.bayAddress + next.bytesDone, space := p.space,
            wide := nextIsWide (deriveWidth (s.bay b).life.summary p) (p.bayAddress + next.bytesDone)
              (next.length - next.bytesDone),
            write := next.isWrite, run := none } })

/-- The end of the request that bay `b` serves with a status: its entry, the timeout streak, the free bus, the next head,
and everything else as it was (R51, R65, R66). -/
def RequestEnded (s t : State) (b : BayId) (status : AnswerStatus) (streak : Nat) (ended : Entry)
    (rest : List Entry) : Prop :=
  EntryEnded s t b status ended ∧ NextHeadServed s t b streak rest ∧
  (t.bay b).life = (s.bay b).life ∧ (s.bay b).SameLines (t.bay b) ∧ t.bus = { s.bus with driven := none } ∧
  (∀ c, c ≠ b → t.bay c = s.bay c) ∧
  t.link = s.link ∧ t.windows = s.windows ∧ t.mgmt = s.mgmt ∧ t.starvation = s.starvation ∧ t.straps = s.straps

/-- An orphan (R30). -/
def Entry.isOrphan : Entry → Bool
  | .store _ => false
  | .request e => e.state == .orphaned

/-- The answers that a purge makes of a list (R41); that a PORT_STORE's own data is emptied is the model's choice (log
30). -/
def purgeAnswers (status : AnswerStatus) (l : List Entry) : List OpenEntry :=
  l.filterMap (fun e =>
    match e with
    | .store _ => none
    | .request r => if r.state = .orphaned then none else some (r.answered status))

/-- The raises of STORE_DROPPED that a purge makes of a list (R41). -/
def NoticeUnit.purgeRaises (n : NoticeUnit) (b : BayId) (status : AnswerStatus) (l : List Entry) : NoticeUnit :=
  (l.filter Entry.isStore).foldl (fun n _ => n.raise (.bay b .storeDropped) status.dropReason) n

/-- The credits that a purge of a list returns: one for each store and one for each orphan, while the link is UP (R41,
R48, R122). They start the grant timer where the sum of the pending returns rises from 0, and the grant that is wanted for
another cause is as it was (R124). -/
def PurgeCredits (s t : State) (l : List Entry) : Prop :=
  (s.link.state ≠ .up → t.ledger = s.ledger) ∧
  (s.link.state = .up →
    t.ledger.store = ⟨s.ledger.store.outstanding, s.ledger.store.pendingReturn + l.countP Entry.isStore⟩ ∧
    t.ledger.request = ⟨s.ledger.request.outstanding, s.ledger.request.pendingReturn + l.countP Entry.isOrphan⟩ ∧
    t.ledger.mgmt = s.ledger.mgmt ∧
    t.ledger.grantTimer =
      (s.ledger.grantTimer ||
        (decide (s.ledger.pendingTotal = 0) && decide (0 < l.countP Entry.isStore + l.countP Entry.isOrphan))) ∧
    t.ledger.grantExpired = s.ledger.grantExpired ∧ t.ledger.seedDue = s.ledger.seedDue)

/-- The bus without a cycle of a bay, and otherwise as it was (R71). -/
def BusReleased (s t : State) (b : BayId) : Prop :=
  t.bus.pointer = s.bus.pointer ∧ (∀ d, t.bus.driven = some d → d.bay ≠ b) ∧
  ∀ d, d.bay ≠ b → s.bus.driven = some d → t.bus.driven = some d

/-- The controller of a bay in FAULTED (R92). -/
def Lifecycle.faulted (l : Lifecycle) (reason : FaultReason) : Lifecycle :=
  { l with state := .faulted, supply := .none, mrstAsserted := true, timer := none, phase := none, mrdySeen := false,
           summary := none, quiesceMode := none, faultReason := some reason, lamp := .blinking }

/-- The entry of a bay to FAULTED (R91, R92): its lines and items, its purge with BAY_FAULT, its engine without work, and
the rest as it was. -/
def BayFaulted (s t : State) (b : BayId) (reason : FaultReason) : Prop :=
  (t.bay b).life = (s.bay b).life.faulted reason ∧ (t.bay b).list = [] ∧ (t.bay b).engine.WithoutWork ∧
  (t.bay b).engine.timeoutStreak = (s.bay b).engine.timeoutStreak ∧
  (t.bay b).presA = (s.bay b).presA ∧ (t.bay b).presB = (s.bay b).presB ∧ BusReleased s t b ∧
  PurgeCredits s t (s.bay b).list ∧
  t.answerOrder = s.answerOrder ++ purgeAnswers .bayFault (s.bay b).list ∧
  t.notice = (s.notice.purgeRaises b .bayFault (s.bay b).list).raise (.bay b .fault) (some reason.reason) ∧
  (∀ c, c ≠ b → t.bay c = s.bay c) ∧ t.link = s.link ∧ t.windows = s.windows ∧ t.mgmt = s.mgmt ∧
  t.starvation = s.starvation ∧ t.straps = s.straps

/-- The controller of a bay that is QUIESCED (R112, R113), with MRDY seen as given. -/
def Lifecycle.quiescedWith (l : Lifecycle) (mrdySeen : Bool) : Lifecycle :=
  { l with state := .quiesced, supply := .none, mrstAsserted := true, timer := none, phase := none,
           mrdySeen := mrdySeen, summary := none, quiesceMode := none, faultReason := none, lamp := .steady }

/-- The laws of the bays and of the bus together (chapters 2 to 5). -/
def BayLaw (s : State) : Prop := LifecycleLaw s ∧ BayListLaw s ∧ BusLaw s

/-- The laws of the open requests together: their answers and their tags (R30, R40, R44). -/
def RequestLaw (s : State) : Prop := AnswerLaw s ∧ TagLaw s ∧ DownLaw s

end Sys2Proof.Machine
end

