-- ==== Sys2Proof/WellFormed.lean ====
section
/-! DEFINITION. Which commands the outside can send: the payload of a packet fits a sequenced frame, whose payload
length is 1 to 80 (R191), and the rows that are named for a form carry that form. `exec` is total and gives the
other terms the meaning of the packet they spell. -/

namespace Sys2Proof

/-- The payload length of a sequenced frame (R191). -/
def payloadFits (bytes : Nat) : Bool := decide (1 ≤ bytes) && decide (bytes ≤ 80)

/-- The codes of the sixteen management commands (R166). -/
def commandCodes : List Byte :=
  [0x01, 0x10, 0x11, 0x12, 0x13, 0x20, 0x21, 0x22, 0x23, 0x24, 0x30, 0x31, 0x32, 0x33, 0x40, 0x7F]

/-- The kind bytes of the five request packets (R191). -/
def requestKinds : List Byte := [0x01, 0x02, 0x03, 0x04, 0x05]

/-- A transaction packet with an 11-byte header. -/
def requestFits : Option RequestFields → Bool
  | none => true
  | some f => payloadFits (11 + f.data.length)

/-- A STORE packet: a 10-byte header. -/
def storeFits : Option StoreFields → Bool
  | none => true
  | some f => payloadFits (10 + f.data.length)

/-- A MGMT packet: kind, sequence number, code, operands. -/
def mgmtFits (operands : List Byte) : Bool := payloadFits (3 + operands.length)

/-- An event taken ahead of an UNRESPONSIVE report. -/
def beforeFits : BeforeReport → Bool
  | .quiesce _ operands => mgmtFits operands
  | .nothing | .quiesceCompletion | .removal | .pgoodLoss => true

/-- The well-formed commands. -/
def Instr.wf : Instr → Bool
  | .sequencedFrameReceived _ payload => payloadFits payload.content.length
  | .fetch a | .portFetch a | .portStore a => requestFits a.content
  | .store a => storeFits a.content
  | .accessTimerExpiry _ before => beforeFits before
  | .unknownPacketKind kind body => !(requestKinds.contains kind) && payloadFits (1 + body.length)
  | .mgmtSequenceReplay _ _ operands => mgmtFits operands
  | .unknownCommand _ code operands => !(commandCodes.contains code) && mgmtFits operands
  | .identify _ operands | .windowWrite _ operands | .windowRead _ operands | .windowClear _ operands
  | .windowClearBay _ operands | .bayStatus _ operands | .bayPolicy _ operands | .powerOn _ operands
  | .quiesce _ operands | .bayRestart _ operands | .eventRead _ operands | .eventEnable _ operands
  | .eventClear _ operands | .eventInject _ operands | .countersRead _ operands
  | .bridgeReset _ operands => mgmtFits operands
  | .powerOnReset _ | .holdOffExpiry | .trainIntervalExpiry | .trainingTimerExpiry | .trainReceived _ _
  | .badFrameReceived | .ackTimerExpiry | .ackReceived _ | .resendReceived _ | .idleReceived
  | .receiveSignalLoss | .silenceTimerExpiry | .replayTimerExpiry | .keepaliveExpiry | .busGrant
  | .cycleMinLengthExpiry _ _ _ _ | .waitRelease _ _ _
  | .presenceContactAsserted _ _ | .presenceContactDeasserted _ _ | .stablePresenceExpiry _
  | .senseSettleExpiry _ _ _ | .pgoodArrival _ | .powerGoodWaitExpiry _ | .powerSettleExpiry _ | .pgoodLoss _
  | .moduleResetExpiry _ _ | .mrdyArrival _ | .readyTimerExpiry _ | .attnRisingEdge _ | .removalTimerExpiry _
  | .quiesceCompletion _ | .grantTimerExpiry | .placeGrant | .placeMgmtResp | .placeAnswer | .placeNotice
  | .resetTimerExpiry | .frameTransmissionEnd | .malformedMgmtPacket _ => true

end Sys2Proof
end

