-- ==== Sys2Proof/Certificates/Slice0/Obligations.lean ====
section
/-! DEFINITION. The statements about the bridge. A statement about a command gives its next state whole, by equations, or
part by part. -/

open Sys2Proof Sys2Proof.Machine

/-! ## The queue of commands -/

/-- A step runs the command at the front of the queue on the state with the queue's rest; on an empty queue the block
idles. The queue and the idling are the model's (log 1). -/
def Obligations.StepRunsFrontCommand : Prop :=
  ∀ (s : State),
    (∀ (c : Instr) (rest : List Instr), step (s.setPending (c :: rest)) = exec c (s.setPending rest)) ∧
    (s.pending = [] → step s = .next s)

/-- Every command has a next state, in every state, and leaves the rest of the queue alone. -/
def Obligations.EveryCommandCompletes : Prop :=
  ∀ (i : Instr) (s : State), ∃ t, exec i s = .next t ∧ t.pending = s.pending

/-! ## The two resets -/

/-- POWER_ON_RESET gives every block its power-on values and samples the straps; a bay keeps the levels of its lines, and
with both contacts asserted it enters SETTLING at once.
That the contacts and PGOOD keep their levels is the model's choice (log 8). -/
def Obligations.PowerOnResetGivesResetValues : Prop :=
  ∀ (straps : BitVec 4) (s : State), ∃ t, exec (.powerOnReset straps) s = .next t ∧
    t.link = LinkUnit.reset ∧ t.ledger = Ledger.reset ∧ t.starvation = 0 ∧
    (∀ i : Fin 32, t.windows[i] = Window.reset) ∧ t.answerOrder = [] ∧
    t.bus = { driven := none, pointer := .b0 } ∧ t.notice = NoticeUnit.reset ∧ t.mgmt = Mgmt.reset ∧
    t.straps = straps ∧
    ∀ b : BayId, (t.bay b).engine = Engine.reset ∧ (t.bay b).list = [] ∧
      (t.bay b).presA = (s.bay b).presA ∧ (t.bay b).presB = (s.bay b).presB ∧ (t.bay b).pgood = (s.bay b).pgood ∧
      ((s.bay b).present = false → (t.bay b).life = Lifecycle.reset) ∧
      ((s.bay b).present = true →
        (t.bay b).life = { Lifecycle.reset with state := .settling, timer := some .stablePresence })

/-- A pending BRIDGE_RESET is carried out by the acknowledgement of its response's frame, by the reset timer, or by the
link leaving UP: every block takes its power-on values, but the link epoch is kept and the straps are not sampled.
Which frame is the response's is the model's reading (log 19). -/
def Obligations.PendingResetIsCarriedOut : Prop :=
  ∀ (i : Instr) (s : State), s.mgmt.resetPending = true →
    ((i = .resetTimerExpiry ∧ s.mgmt.resetTimer = true) ∨
     (∃ n f, i = .ackReceived n ∧ s.link.state = .up ∧ s.mgmt.resetFrame = some f ∧
        holdsSeq n s.link.replay = true ∧ holdsSeq f s.link.replay = true ∧
        holdsSeq f (framesAfter n s.link.replay) = false) ∨
     (i = .receiveSignalLoss ∧ s.link.state = .up) ∨
     (i = .silenceTimerExpiry ∧ s.link.state = .up ∧ s.link.timers.silence = true) ∨
     (i = .replayTimerExpiry ∧ s.link.state = .up ∧ s.link.timers.replay = true ∧ s.link.replay ≠ [] ∧
        3 ≤ s.link.attempts)) →
    ∃ t, exec i s = .next t ∧ t.link = { LinkUnit.reset with epoch := s.link.epoch } ∧ t.straps = s.straps ∧
      exec (.powerOnReset s.straps) s = .next (t.setLink LinkUnit.reset)

/-! ## The trunk link -/

/-- Training: the hold-off's expiry starts it with a first TRAIN; its timer or the loss of the receive signal ends it in
DOWN; each TRAIN sent or received makes its progress, as long as that does not complete the conditions for UP.
What becomes of the transmitter is the model's reading (logs 11 and 13). -/
def Obligations.TrainingProceeds : Prop :=
  ∀ (s : State),
    (s.link.state = .down → s.link.timers.holdOff = true →
      exec .holdOffExpiry s = .next (s.setLink
        { s.link with
          state := .training, trainsInRow := 0, trainsSent := 1, trainSeen := false,
          timers := { s.link.timers with holdOff := false, training := true, trainInterval := true },
          tx := s.link.tx.sendControl (.train false s.link.epoch) })) ∧
    (s.link.state = .training → s.link.timers.training = true →
      exec .trainingTimerExpiry s = .next (s.setLink { s.link with state := .down, timers := .reset, tx := .idle })) ∧
    (s.link.state = .training →
      exec .receiveSignalLoss s = .next (s.setLink { s.link with state := .down, timers := .reset, tx := .idle })) ∧
    (s.link.state = .training → s.link.timers.trainInterval = true →
      s.link.trainsInRow ≠ 2 ∨ s.link.trainsSent = 0 →
      exec .trainIntervalExpiry s = .next (s.setLink
        { s.link with
          trainsSent := s.link.trainsSent + 1,
          tx := s.link.tx.sendControl (.train s.link.trainSeen s.link.epoch) })) ∧
    (∀ epoch : Byte, s.link.state = .training → s.link.trainsInRow = 0 ∨ s.link.trainsSent < 2 →
      exec (.trainReceived true epoch) s = .next (s.setLink
        { s.link with trainSeen := true, trainsInRow := min 2 (s.link.trainsInRow + 1) })) ∧
    (∀ epoch : Byte, s.link.state = .training →
      exec (.trainReceived false epoch) s = .next (s.setLink { s.link with trainSeen := true, trainsInRow := 0 }))

/-- The entry to UP, at the TRAIN sent or received that completes the conditions: the link unit's values, the seeded
ledger, and the Notice Unit's report.
The model's choices: the last TRAIN keeps the content of its call and goes ahead of other control frames (log 11), and a
TRAIN under way or waiting is sent after the entry to UP (log 13). That the seed starts the grant timer is read from R124
(log 15). -/
def Obligations.TrainingCompletesInUp : Prop :=
  ∀ (i : Instr) (s : State) (l : LinkUnit), s.link.state = .training →
    ((i = .trainIntervalExpiry ∧ s.link.timers.trainInterval = true ∧ s.link.trainsInRow = 2 ∧
        1 ≤ s.link.trainsSent ∧
        l = { s.link with
              trainsSent := s.link.trainsSent + 1,
              tx := s.link.tx.sendControl (.train s.link.trainSeen s.link.epoch) }) ∨
     (∃ epoch, i = .trainReceived true epoch ∧ 1 ≤ s.link.trainsInRow ∧ 2 ≤ s.link.trainsSent ∧
        l = { s.link with trainSeen := true, trainsInRow := 2 })) →
    exec i s = .next (((s.setLink
      { l with
        state := .up, epoch := s.link.epoch + 1, receiveExpected := 0, transmitNext := 0, attempts := 0, ackOwed := 0,
        resendSent := false,
        timers := { s.link.timers with training := false, trainInterval := false, silence := true, keepalive := true }
      }).setLedger
      { store := ⟨0, 24 - s.storesInUse⟩, request := ⟨0, 32 - s.requestsInUse⟩, mgmt := ⟨0, 1 - s.mgmtInUse⟩,
        grantTimer := decide (0 < 24 - s.storesInUse + (32 - s.requestsInUse) + (1 - s.mgmtInUse)),
        grantExpired := false, seedDue := true }).setNotice s.notice.linkUp)

/-- The Notice Unit when the link leaves UP and when it reaches UP: announced is lost for set kinds, then regained for set
and enabled ones; LINK_RESTORED is raised at every UP but the first after a reset. Each kind announced at UP joins the
record of its source in the notice queue, in place, or in a new record at the tail, bay 0 to bay 5 and then BRIDGE.
That announced stays no at UP for a kind disabled while it stands in a queued record is the model's choice (log 35). -/
def Obligations.NoticesFollowLink : Prop :=
  ∀ (n : NoticeUnit) (e : EventId),
    n.forgetAnnounced.record e =
      { n.record e with announced := (n.record e).announced && !(n.record e).flag } ∧
    n.forgetAnnounced.queue = n.queue ∧ n.forgetAnnounced.nextSeq = n.nextSeq ∧
    n.forgetAnnounced.firstUp = n.firstUp ∧
    (n.firstUp = true ∨ e ≠ .bridge .linkRestored →
      n.linkUp.record e =
        { n.record e with
          announced := (n.record e).announced || ((n.record e).flag && (n.record e).enable) }) ∧
    (n.firstUp = false → (n.record (.bridge .linkRestored)).flag = true →
      n.linkUp.record (.bridge .linkRestored) =
        { n.record (.bridge .linkRestored) with
          count := satSucc 255 (n.record (.bridge .linkRestored)).count,
          announced := (n.record (.bridge .linkRestored)).announced || (n.record (.bridge .linkRestored)).enable }) ∧
    (n.firstUp = false → (n.record (.bridge .linkRestored)).flag = false →
      n.linkUp.record (.bridge .linkRestored) =
        { n.record (.bridge .linkRestored) with
          flag := true, count := 1, firstReason := none,
          announced := (n.record (.bridge .linkRestored)).enable }) ∧
    (QueueLaw n.queue →
      n.linkUp.queue = announcedQueue (fun x => x.kindsWhere (fun e => n.dueAtUp e)) n.queue) ∧
    n.linkUp.nextSeq = n.nextSeq ∧ n.linkUp.firstUp = false

/-- A bad or unreadable frame is counted in TRAINING and in UP; in TRAINING it ends the TRAIN frames in a row, in UP it
calls for a RESEND, once until the next acceptance.
That the RESEND's content is fixed when it is called for, also while another frame is sent, is the model's choice (log 11). -/
def Obligations.BadFramesAreCounted : Prop :=
  ∀ (s : State),
    (s.link.state = .training →
      exec .badFrameReceived s = .next (s.setLink
        { s.link with
          trainsInRow := 0,
          counters := { s.link.counters with checkErrors := satSucc 65535 s.link.counters.checkErrors } })) ∧
    (s.link.state = .up → s.link.resendSent = false →
      exec .badFrameReceived s = .next (s.setLink
        { s.link with
          resendSent := true, tx := s.link.tx.sendControl (.resend s.link.receiveExpected),
          counters := { s.link.counters with
            checkErrors := satSucc 65535 s.link.counters.checkErrors,
            resendsSent := satSucc 65535 s.link.counters.resendsSent } })) ∧
    (s.link.state = .up → s.link.resendSent = true →
      exec .badFrameReceived s = .next (s.setLink
        { s.link with
          counters := { s.link.counters with checkErrors := satSucc 65535 s.link.counters.checkErrors } }))

/-- A good sequenced frame in UP: the expected one is accepted, its packet meets intake, and the fourth since the last ACK
is acknowledged at once; an earlier one is acknowledged again; a later one calls for a RESEND, once. The expiry of the ACK
timer sends an ACK.
That a frame's packet meets intake in the same step is the model's choice (log 5), and so is when a control frame's content is
fixed (log 11). A removal may overtake the packet's request between its lookup and its admission (log 28), and a link loss
may be taken between its append and its start (log 29). -/
def Obligations.SequencedFramesAreJudged : Prop :=
  ∀ (s : State) (n : LinkSeq) (payload : Arrival (List Byte)), s.link.state = .up →
    (n = s.link.receiveExpected → s.link.ackOwed < 3 →
      exec (.sequencedFrameReceived n payload) s = .next ((s.setLink
        { s.link with
          receiveExpected := s.link.receiveExpected + 1, ackOwed := s.link.ackOwed + 1, resendSent := false,
          timers := { s.link.timers with ack := true, silence := true } }).intake (packetOf payload.content) payload.meets)) ∧
    (n = s.link.receiveExpected → 3 ≤ s.link.ackOwed →
      exec (.sequencedFrameReceived n payload) s = .next ((s.setLink
        { s.link with
          receiveExpected := s.link.receiveExpected + 1, ackOwed := 0, resendSent := false,
          timers := { s.link.timers with ack := false, silence := true },
          tx := s.link.tx.sendControl (.ack s.link.receiveExpected) }).intake (packetOf payload.content) payload.meets)) ∧
    (1 ≤ (s.link.receiveExpected - n).toNat → (s.link.receiveExpected - n).toNat ≤ 2048 →
      exec (.sequencedFrameReceived n payload) s = .next (s.setLink
        { s.link with
          ackOwed := 0, timers := { s.link.timers with ack := false, silence := true },
          tx := s.link.tx.sendControl (.ack (s.link.receiveExpected - 1)) })) ∧
    (1 ≤ (n - s.link.receiveExpected).toNat → (n - s.link.receiveExpected).toNat ≤ 2047 →
      s.link.resendSent = false →
      exec (.sequencedFrameReceived n payload) s = .next (s.setLink
        { s.link with
          resendSent := true, timers := { s.link.timers with silence := true },
          tx := s.link.tx.sendControl (.resend s.link.receiveExpected),
          counters := { s.link.counters with
            resendsSent := satSucc 65535 s.link.counters.resendsSent } })) ∧
    (1 ≤ (n - s.link.receiveExpected).toNat → (n - s.link.receiveExpected).toNat ≤ 2047 → s.link.resendSent = true →
      exec (.sequencedFrameReceived n payload) s = .next (s.setLink
        { s.link with timers := { s.link.timers with silence := true } })) ∧
    (s.link.timers.ack = true →
      exec .ackTimerExpiry s = .next (s.setLink
        { s.link with
          ackOwed := 0, timers := { s.link.timers with ack := false },
          tx := s.link.tx.sendControl (.ack (s.link.receiveExpected - 1)) }))

/-- ACK, RESEND and IDLE in UP are receive activity. An ACK for a frame of the replay list removes the frames up to it,
and does no more unless the frame of a pending BRIDGE_RESET's response is among them; a RESEND for one retransmits from it
on; neither does more when it names no frame of the list.
What a retransmission does with waiting frames is the model's choice (logs 10, 33 and 34), and which frame is the
response's is its reading (log 19). -/
def Obligations.AcksAndResendsActOnReplayList : Prop :=
  ∀ (s : State) (n : LinkSeq), s.link.state = .up →
    (∀ before f after, s.link.replay = before ++ f :: after → f.seq = n → (∀ g ∈ before, g.seq ≠ n) →
      (s.mgmt.resetPending = false ∨
        (∀ x, s.mgmt.resetFrame = some x → (∀ g ∈ before ++ [f], g.seq ≠ x) ∨ ∃ g ∈ after, g.seq = x) →
        exec (.ackReceived n) s = .next (s.setLink
          { s.link with
            replay := after, attempts := 0,
            timers := { s.link.timers with silence := true, replay := !after.isEmpty } })) ∧
      exec (.resendReceived n) s = .next (s.setLink
        { s.link with
          timers := { s.link.timers with silence := true }, tx := s.link.tx.sendAgain (f :: after),
          counters := { s.link.counters with
            resendsReceived := satSucc 65535 s.link.counters.resendsReceived } })) ∧
    ((∀ g ∈ s.link.replay, g.seq ≠ n) →
      exec (.ackReceived n) s = .next (s.setLink { s.link with timers := { s.link.timers with silence := true } }) ∧
      exec (.resendReceived n) s = .next (s.setLink
        { s.link with
          timers := { s.link.timers with silence := true },
          counters := { s.link.counters with
            resendsReceived := satSucc 65535 s.link.counters.resendsReceived } })) ∧
    exec .idleReceived s = .next (s.setLink { s.link with timers := { s.link.timers with silence := true } })

/-- The link leaves UP by signal loss, silence or replay exhaustion, with no BRIDGE_RESET pending: the effect at every
block.
What R189 does not name is kept (log 23). -/
def Obligations.LinkLeavesUp : Prop :=
  ∀ (i : Instr) (s : State) (exhaustions : Nat), s.link.state = .up → s.mgmt.resetPending = false →
    ((i = .receiveSignalLoss ∧ exhaustions = s.link.counters.replayExhaustions) ∨
     (i = .silenceTimerExpiry ∧ s.link.timers.silence = true ∧ exhaustions = s.link.counters.replayExhaustions) ∨
     (i = .replayTimerExpiry ∧ s.link.timers.replay = true ∧ s.link.replay ≠ [] ∧ 3 ≤ s.link.attempts ∧
        exhaustions = satSucc 65535 s.link.counters.replayExhaustions)) →
    ∃ t, exec i s = .next t ∧
      t.link =
        { s.link with
          state := .down, replay := [], ackOwed := 0, resendSent := false, timers := .reset, tx := .idle,
          counters := { s.link.counters with
            linkDowns := satSucc 65535 s.link.counters.linkDowns, replayExhaustions := exhaustions } } ∧
      t.ledger = Ledger.reset ∧ t.starvation = 0 ∧ t.windows = s.windows ∧ t.answerOrder = [] ∧ t.bus = s.bus ∧
      t.notice = s.notice.forgetAnnounced ∧ t.mgmt = { s.mgmt with busy := false } ∧ t.straps = s.straps ∧
      ∀ b : BayId, t.bay b =
        { s.bay b with
          list := (s.bay b).list.filterMap Entry.afterLinkLoss,
          life := { (s.bay b).life with
            unanswered := min 65535 ((s.bay b).life.unanswered + s.lostRequests b) } }

/-- The expiry of the replay timer with frames in the list and fewer than three attempts made sends the whole list
again.
What a retransmission does with waiting frames is the model's choice (logs 10, 33 and 34). -/
def Obligations.ReplayTimerSendsListAgain : Prop :=
  ∀ (s : State), s.link.state = .up → s.link.timers.replay = true → s.link.replay ≠ [] → s.link.attempts < 3 →
    exec .replayTimerExpiry s = .next (s.setLink
      { s.link with attempts := s.link.attempts + 1, tx := s.link.tx.sendAgain s.link.replay })

/-- The keepalive timer's expiry sends an IDLE. The end of the frame under transmission begins the next one: a control
frame before a retransmitted frame before a placed one; in UP the keepalive timer runs again. A frame that is called for,
placed or sent again begins at once when nothing is under transmission; else control frames wait in the order ACK, RESEND,
IDLE, placed frames in the order of their placement, and a retransmission replaces what remains of the earlier one.
The model's choices: the keepalive timer's wait for that end (log 12), TRAIN ahead of the other control frames (log 11),
and what a retransmission does with the placed frames that wait (logs 10, 33 and 34). -/
def Obligations.TransmitterSendsInOrder : Prop :=
  ∀ (s : State),
    (s.link.state = .up → s.link.timers.keepalive = true →
      exec .keepaliveExpiry s = .next (s.setLink
        { s.link with tx := s.link.tx.sendControl .idle, timers := { s.link.timers with keepalive := false } })) ∧
    (∀ (f : WireFrame) (next : Transmitter), s.link.tx.current = some f →
      ((∃ c rest, s.link.tx.control = c :: rest ∧ next = { s.link.tx with current := some c, control := rest }) ∨
       (∃ g rest, s.link.tx.control = [] ∧ s.link.tx.retransmit = g :: rest ∧
          next = { s.link.tx with current := some (.sequenced g), retransmit := rest }) ∨
       (∃ g rest, s.link.tx.control = [] ∧ s.link.tx.retransmit = [] ∧ s.link.tx.fresh = g :: rest ∧
          next = { s.link.tx with current := some (.sequenced g), fresh := rest }) ∨
       (s.link.tx.control = [] ∧ s.link.tx.retransmit = [] ∧ s.link.tx.fresh = [] ∧
          next = { s.link.tx with current := none })) →
      exec .frameTransmissionEnd s = .next (s.setLink
        { s.link with
          tx := next,
          timers := { s.link.timers with keepalive := s.link.timers.keepalive || (s.link.state == .up) } })) ∧
    (∀ (ready : Bool) (epoch : Byte) (n m : LinkSeq),
      (WireFrame.train ready epoch).rank < (WireFrame.ack n).rank ∧
      (WireFrame.ack n).rank < (WireFrame.resend m).rank ∧ (WireFrame.resend m).rank < WireFrame.idle.rank) ∧
    (∀ (x : WireFrame) (f : Frame) (frames : List Frame),
      Transmitter.idle.sendControl x = { Transmitter.idle with current := some x } ∧
      Transmitter.idle.sendPlaced f = { Transmitter.idle with current := some (.sequenced f) } ∧
      Transmitter.idle.sendAgain (f :: frames) =
        { Transmitter.idle with current := some (.sequenced f), retransmit := frames } ∧
      Transmitter.idle.sendAgain [] = Transmitter.idle) ∧
    (∀ (t : Transmitter) (sent x : WireFrame) (f : Frame) (frames : List Frame), t.current = some sent →
      (∀ before after, t.control = before ++ after → (∀ y ∈ before, y.rank ≤ x.rank) →
        (∀ y, after.head? = some y → x.rank < y.rank) →
        t.sendControl x = { t with control := before ++ x :: after }) ∧
      t.sendPlaced f = { t with fresh := t.fresh ++ [f] } ∧
      t.sendAgain frames =
        { t with
          retransmit := frames, fresh := t.fresh.filter (fun g => decide (∀ h ∈ frames, h.seq ≠ g.seq)) })

/-- Frames that the link state discards change nothing: every frame in DOWN; sequenced frames, ACK, RESEND and IDLE in
TRAINING; TRAIN in UP. -/
def Obligations.DiscardedFramesChangeNothing : Prop :=
  ∀ (s : State) (ready : Bool) (epoch : Byte) (n : LinkSeq) (payload : Arrival (List Byte)),
    (s.link.state ≠ .training → exec (.trainReceived ready epoch) s = .next s) ∧
    (s.link.state = .down → exec .badFrameReceived s = .next s) ∧
    (s.link.state ≠ .up →
      exec (.sequencedFrameReceived n payload) s = .next s ∧ exec (.ackReceived n) s = .next s ∧
      exec (.resendReceived n) s = .next s ∧ exec .idleReceived s = .next s)

/-! ## Intake -/

/-- The first check: a request packet without a credit of its pool is an overrun, which raises LINK_PROTOCOL with OVERRUN
and is counted; while the link is not UP no packet is delivered, one of no request kind neither. -/
def Obligations.PacketsWithoutCreditAreOverruns : Prop :=
  (∀ (i : Instr) (p : Pool) (s : State), requestPool i = some p →
    (s.link.state = .up → (s.ledger.get p).outstanding = 0 →
      exec i s = .next ((s.setLink
        { s.link with
          counters := { s.link.counters with overruns := satSucc 65535 s.link.counters.overruns } }).raise
        (.bridge .linkProtocol) (some .overrun))) ∧
    (s.link.state ≠ .up → exec i s = .next s)) ∧
  ∀ (kind : Byte) (body : List Byte) (s : State), s.link.state ≠ .up → exec (.unknownPacketKind kind body) s = .next s

/-- The second check: a malformed packet gives its credit back and raises LINK_PROTOCOL with MALFORMED; a payload of no
request kind raises it without touching the ledger. A packet with a whole header is well formed when its tag, address and
length are in range, it stays in its block, and it carries the data its kind calls for. -/
def Obligations.MalformedPacketsAreDiscarded : Prop :=
  ∀ (s : State),
    (∀ (k : RequestKind) (a : Arrival (Option RequestFields)), s.HasCredit .request →
      (∀ g, a.content = some g → requestWellFormed k g = false) →
      exec (requestCommand k a) s =
        .next ((s.passedThrough .request).raise (.bridge .linkProtocol) (some .malformed))) ∧
    (∀ a : Arrival (Option StoreFields), s.HasCredit .store →
      (∀ g, a.content = some g → storeWellFormed g = false) →
      exec (.store a) s = .next ((s.passedThrough .store).raise (.bridge .linkProtocol) (some .malformed))) ∧
    (∀ q : Option Byte, s.HasCredit .mgmt →
      exec (.malformedMgmtPacket q) s =
        .next ((s.passedThrough .mgmt).raise (.bridge .linkProtocol) (some .malformed))) ∧
    (∀ (kind : Byte) (body : List Byte), s.link.state = .up → kind ∉ requestKinds →
      exec (.unknownPacketKind kind body) s = .next (s.raise (.bridge .linkProtocol) (some .malformed))) ∧
    (∀ f : RequestFields, requestWellFormed .fetch f = true ↔
      f.tag.toNat < 64 ∧ f.address.toNat < 2 ^ 48 ∧ 1 ≤ f.length.toNat ∧ f.length.toNat ≤ 64 ∧
      f.address.toNat % 64 + f.length.toNat ≤ 64 ∧ f.data = []) ∧
    (∀ f : RequestFields, requestWellFormed .portFetch f = true ↔
      f.tag.toNat < 64 ∧ f.address.toNat < 2 ^ 32 ∧ 1 ≤ f.length.toNat ∧ f.length.toNat ≤ 4 ∧
      f.address.toNat % 4 + f.length.toNat ≤ 4 ∧ f.data = []) ∧
    (∀ f : RequestFields, requestWellFormed .portStore f = true ↔
      f.tag.toNat < 64 ∧ f.address.toNat < 2 ^ 32 ∧ 1 ≤ f.length.toNat ∧ f.length.toNat ≤ 4 ∧
      f.address.toNat % 4 + f.length.toNat ≤ 4 ∧ f.data.length = f.length.toNat) ∧
    (∀ f : StoreFields, storeWellFormed f = true ↔
      f.address.toNat < 2 ^ 48 ∧ 1 ≤ f.length.toNat ∧ f.length.toNat ≤ 64 ∧
      f.address.toNat % 64 + f.length.toNat ≤ 64 ∧ f.data.length = f.length.toNat)

/-- The third check: a well-formed request whose tag is in force gives its credit back and raises LINK_PROTOCOL with
TAG_IN_USE. -/
def Obligations.TagsInForceAreRefused : Prop :=
  ∀ (s : State) (k : RequestKind) (f : RequestFields) (meets : Meeting), s.HasCredit .request →
    requestWellFormed k f = true → BitVec.ofNat 6 f.tag.toNat ∈ s.tagsInForce →
    exec (requestCommand k ⟨some f, meets⟩) s =
      .next ((s.passedThrough .request).raise (.bridge .linkProtocol) (some .tagInUse))

/-- A lookup finds the one valid window of the family that covers the address, and nothing when there is none; its
translation moves the address from the window's upstream base to its bay base, inside the space. -/
def Obligations.LookupTranslatesByOneWindow : Prop :=
  ∀ (t : WindowTable) (port : Bool) (a : Nat), WindowLaw t →
    (∀ i : Fin 32, t[i].takesPart port = true → t[i].covers a = true →
      lookupWindow t port a = some t[i] ∧
      (t[i].translate a).bayAddress + t[i].upstreamBase = a + t[i].bayBase ∧
      (t[i].translate a).bayAddress < t[i].space.size) ∧
    ((∀ i : Fin 32, t[i].takesPart port = true → t[i].covers a = false) → lookupWindow t port a = none)

/-- A well-formed request with a free tag is refused into the answer order list: UNMAPPED without a window, PROTECTED for a
PORT_STORE through a READ_ONLY window, and else by the state of its bay. After a removal between the lookup and the
admission that state is the one the removal has left: the answer is NO_MODULE, whether or not the window was cleared.
The operand that puts a removal there is the model's (log 28). -/
def Obligations.RefusedRequestsBecomeAnswers : Prop :=
  ∀ (s : State) (k : RequestKind) (f : RequestFields) (meets : Meeting), s.HasCredit .request →
    requestWellFormed k f = true → BitVec.ofNat 6 f.tag.toNat ∉ s.tagsInForce →
    (lookupWindow s.windows k.isPort f.address.toNat = none →
      exec (requestCommand k ⟨some f, meets⟩) s = .next ((s.consumed .request).setAnswerOrder
        (s.answerOrder ++ [{ newEntry k f none with state := .answerReady, status := some .unmapped }]))) ∧
    (∀ (w : Window) (status : AnswerStatus) (u : State), lookupWindow s.windows k.isPort f.address.toNat = some w →
      Overtaken (s.consumed .request) w.bay meets u →
      ((k = .portStore ∧ w.protect = .readOnly ∧ status = .protectedWindow) ∨
       ((k ≠ .portStore ∨ w.protect = .writable) ∧
         ((status = .noModule ∧ (u.bay w.bay).life.state ∈ [BayState.empty, .settling, .identifying]) ∨
          (status = .notReady ∧
            (u.bay w.bay).life.state ∈ [BayState.unpowered, .powering, .resetting, .profiling, .faulted]) ∨
          (status = .quiesced ∧ (u.bay w.bay).life.state ∈ [BayState.quiescing, .quiesced])))) →
      exec (requestCommand k ⟨some f, meets⟩) s = .next (u.setAnswerOrder
        (u.answerOrder ++
          [{ newEntry k f (some (w.translate f.address.toNat)) with
             state := .answerReady, status := some status }])))

/-- A well-formed STORE is dropped at intake, its credit given back: UNMAPPED_STORE without a window, and else
STORE_DROPPED of the window's bay, for a READ_ONLY window or by the state of the bay, which is the state that a removal
between the lookup and the admission has left.
The operand that puts a removal there is the model's (log 28). -/
def Obligations.RefusedStoresAreDropped : Prop :=
  ∀ (s : State) (f : StoreFields) (meets : Meeting), s.HasCredit .store → storeWellFormed f = true →
    (lookupWindow s.windows false f.address.toNat = none →
      exec (.store ⟨some f, meets⟩) s = .next ((s.passedThrough .store).raise (.bridge .unmappedStore) none)) ∧
    (∀ (w : Window) (reason : Reason) (u : State), lookupWindow s.windows false f.address.toNat = some w →
      Overtaken (s.consumed .store) w.bay meets u →
      ((w.protect = .readOnly ∧ reason = .protectedWindow) ∨
       (w.protect = .writable ∧
         ((reason = .noModule ∧ (u.bay w.bay).life.state ∈ [BayState.empty, .settling, .identifying]) ∨
          (reason = .notReady ∧
            (u.bay w.bay).life.state ∈ [BayState.unpowered, .powering, .resetting, .profiling, .faulted]) ∨
          (reason = .quiesced ∧ (u.bay w.bay).life.state ∈ [BayState.quiescing, .quiesced])))) →
      exec (.store ⟨some f, meets⟩) s = .next ((u.returned .store).raise (.bay w.bay .storeDropped) (some reason)))

/-- A request of a READY bay joins the tail of the bay's list, its credit consumed; an idle engine starts it at once. An
event of the link that the append meets is taken on the list with the new entry QUEUED, and what it leaves there is
started: where it takes the link out of UP, a lone FETCH, PORT_FETCH or PORT_STORE is freed and counted unanswered, and a
STORE stays and is started.
The operand that may put a removal between the lookup and the admission is the model's (log 28), and so is the one that puts
an event of the link between the append and the start (log 29). -/
def Obligations.AdmittedRequestsJoinBayList : Prop :=
  ∀ (s u : State) (i : Instr) (p : Pool) (w : Window) (snap : Snapshot) (e : Entry) (meets : Meeting),
    ((∃ (k : RequestKind) (f : RequestFields), i = requestCommand k ⟨some f, meets⟩ ∧ p = .request ∧
        requestWellFormed k f = true ∧ BitVec.ofNat 6 f.tag.toNat ∉ s.tagsInForce ∧
        lookupWindow s.windows k.isPort f.address.toNat = some w ∧ (k ≠ .portStore ∨ w.protect = .writable) ∧
        snap = w.translate f.address.toNat ∧ e = .request (newEntry k f (some snap))) ∨
     (∃ f : StoreFields, i = .store ⟨some f, meets⟩ ∧ p = .store ∧ storeWellFormed f = true ∧
        lookupWindow s.windows false f.address.toNat = some w ∧ w.protect = .writable ∧
        snap = w.translate f.address.toNat ∧ e = .store (newStore f snap))) →
    s.HasCredit p → Overtaken (s.consumed p) w.bay meets u → (u.bay w.bay).life.state = .ready →
    (commandAtAppend meets = none →
      ((u.bay w.bay).engine.state ≠ .idle →
        exec i s = .next (u.setList w.bay ((u.bay w.bay).list ++ [e]))) ∧
      ((u.bay w.bay).engine.state = .idle → (u.bay w.bay).engine.work = .none → (u.bay w.bay).list = [] →
        exec i s = .next (u.setBay w.bay ((u.bay w.bay).started e snap)))) ∧
    (∀ (j : Instr) (v : State), commandAtAppend meets = some j →
      exec j (u.setList w.bay ((u.bay w.bay).list ++ [e])) = .next v →
      ((v.bay w.bay).engine.state ≠ .idle ∨ (v.bay w.bay).list = [] → exec i s = .next v) ∧
      ((v.bay w.bay).engine.state = .idle → (v.bay w.bay).engine.work = .none → (v.bay w.bay).list = [e] →
        (v.bay w.bay).life.state = .ready → exec i s = .next (v.setBay w.bay ((v.bay w.bay).started e snap)))) ∧
    (p = .request → s.mgmt.resetPending = false → s.link.IsLost meets → (u.bay w.bay).list = [] →
      ∃ t, exec i s = .next t ∧ t.link.state = .down ∧ (t.bay w.bay).list = [] ∧
        (t.bay w.bay).engine = (u.bay w.bay).engine ∧
        (t.bay w.bay).life = { (u.bay w.bay).life with
          unanswered :=
            min 65535 ((u.bay w.bay).life.unanswered + (1 + s.answerOrder.countP (OpenEntry.namesBay w.bay))) })

/-! ## The bay bus -/

/-- The effective width and wait class of a request, from the module's summary and the window's values; and the size of
its next cycle. -/
def Obligations.EffectiveParametersLimitCycles : Prop :=
  ∀ (m : ProfileSummary) (p : Snapshot) (address remaining : Nat),
    (deriveWidth (some m) p = .w16 ↔ p.space ≠ .profile ∧ m.widthCapability = .w16 ∧ p.width = .w16) ∧
    deriveWaitClass (some m) p = max p.waitClass m.minWaitClass ∧
    (nextIsWide (deriveWidth (some m) p) address remaining = true ↔
      deriveWidth (some m) p = .w16 ∧ address % 2 = 0 ∧ 2 ≤ remaining)

/-- The arbiter grants a free bus to the first waiting engine from the pointer on: its cycle starts with the policy's
access timer and the minimum length of its wait class, its lines are driven, and the pointer moves past it. With the bus
driven, or no engine waiting, nothing changes.
The fields of a free bus and of a granted cycle are the model's form of R56 (log 21). That the access timer is the policy's
at the grant (log 31), and that the grant is an event of its own (log 32), are the model's choices. -/
def Obligations.BusIsGrantedInTurn : Prop :=
  ∀ (s : State),
    (∀ (b : BayId) (before after : List BayId) (c : Cycle), s.bus.driven = none →
      arbiterOrder s.bus.pointer = before ++ b :: after → (∀ x ∈ before, (s.bay x).engine.state ≠ .awaitingBus) →
      (s.bay b).engine.state = .awaitingBus → (s.bay b).engine.cycle = some c →
      exec .busGrant s = .next ((s.setBay b
        { s.bay b with
          engine := { (s.bay b).engine with
            state := .inCycle,
            cycle := some { c with
              run := some
                { accessTimer := (s.bay b).life.policy.accessTimer,
                  minLengthNs := minCycleNs ((s.bay b).engine.effectiveWaitClass.getD 3), minElapsed := false } } }
        }).setBus
        { driven := some
            { bay := b, address := BitVec.ofNat 24 c.address, space := c.space, highSelect := c.wide,
              write := c.write, lanes := (s.bay b).writeLanes c },
          pointer := b.next })) ∧
    (s.bus.driven ≠ none ∨ (∀ b, (s.bay b).engine.state ≠ .awaitingBus) → exec .busGrant s = .next s)

/-- The minimum length that passes under WAIT leaves the cycle waiting. A normal end that is not the request's last makes
the next cycle ready, with the bytes counted and a fetch's bytes stored. -/
def Obligations.CyclesFollowOneAnother : Prop :=
  ∀ (s : State) (b : BayId) (c : Cycle) (r : CycleRun) (head : Entry) (rest : List Entry) (lanes : BitVec 16),
    s.Serves b c r head rest →
    (∀ error : Bool, r.minElapsed = false →
      exec (.cycleMinLengthExpiry b true error lanes) s = .next (s.setBay b
        { s.bay b with
          engine := { (s.bay b).engine with cycle := some { c with run := some { r with minElapsed := true } } } })) ∧
    (∀ (i : Instr) (width : Width) (p : Snapshot), EndsCycle i b r false lanes →
      (s.bay b).engine.stopAfterCycle = false → (s.bay b).engine.effectiveWidth = some width → head.snap = some p →
      head.bytesDone + c.bytes < head.length →
      exec i s = .next ((s.setBus { s.bus with driven := none }).setBay b
        { s.bay b with
          list := head.advanced c.bytes
            (if c.wide then [lanes.extractLsb' 0 8, lanes.extractLsb' 8 8] else [lanes.extractLsb' 0 8]) :: rest,
          engine := { (s.bay b).engine with
            state := .awaitingBus,
            cycle := some
              { address := p.bayAddress + (head.bytesDone + c.bytes), space := p.space,
                wide := nextIsWide width (p.bayAddress + (head.bytesDone + c.bytes))
                  (head.length - (head.bytesDone + c.bytes)),
                write := head.isWrite, run := none } } }))

/-- The normal end of the last cycle ends the request with OK and the timeout streak at 0.
That a QUIESCING bay whose list becomes empty stays so until QUIESCE_COMPLETION is the model's reading (log 27). -/
def Obligations.LastCycleEndsRequestOk : Prop :=
  ∀ (s : State) (b : BayId) (c : Cycle) (r : CycleRun) (head : Entry) (rest : List Entry) (lanes : BitVec 16)
    (i : Instr), BayListLaw s → s.Serves b c r head rest → EndsCycle i b r false lanes →
    (s.bay b).engine.stopAfterCycle = false → head.length ≤ head.bytesDone + c.bytes →
    ∃ t, exec i s = .next t ∧
      RequestEnded s t b .ok 0
        (head.advanced c.bytes
          (if c.wide then [lanes.extractLsb' 0 8, lanes.extractLsb' 8 8] else [lanes.extractLsb' 0 8])) rest

/-- An ERROR end of any cycle ends the request with MODULE_ERROR and the timeout streak at 0.
That a QUIESCING bay whose list becomes empty stays so until QUIESCE_COMPLETION is the model's reading (log 27), and that a
PORT_STORE's own data is emptied is its choice (log 30). -/
def Obligations.ErrorEndsRequest : Prop :=
  ∀ (s : State) (b : BayId) (c : Cycle) (r : CycleRun) (head : Entry) (rest : List Entry) (lanes : BitVec 16)
    (i : Instr), BayListLaw s → s.Serves b c r head rest → EndsCycle i b r true lanes →
    (s.bay b).engine.stopAfterCycle = false →
    ∃ t, exec i s = .next t ∧ RequestEnded s t b .moduleError 0 head rest

/-- The expiry of the access timer ends the request with BAY_TIMEOUT and adds one to the timeout streak.
That a QUIESCING bay whose list becomes empty stays so until QUIESCE_COMPLETION is the model's reading (log 27), and that a
PORT_STORE's own data is emptied is its choice (log 30). -/
def Obligations.AccessTimerEndsRequest : Prop :=
  ∀ (s : State) (b : BayId) (c : Cycle) (r : CycleRun) (head : Entry) (rest : List Entry) (before : BeforeReport),
    BayListLaw s → s.Serves b c r head rest → (s.bay b).engine.stopAfterCycle = false →
    (s.bay b).engine.timeoutStreak < 3 →
    ∃ t, exec (.accessTimerExpiry b before) s = .next t ∧
      RequestEnded s t b .bayTimeout ((s.bay b).engine.timeoutStreak + 1) head rest

/-- The fourth request in a row to time out faults its bay as UNRESPONSIVE: the request ends with BAY_TIMEOUT and leaves the
streak at 4, and the report then faults a bay that is still READY or QUIESCING, with its purge. What is taken between the
two may take the bay out of those states, and then the report has no effect: a removal, a loss of PGOOD, the completion of a
quiesce that the request's end has left without entries, or a QUIESCE.
The operand that names what is taken there is the model's (log 17); MRDY seen is kept at a completed quiesce (log 18); and
that a PORT_STORE's own data is emptied at these ends is the model's choice (log 30). -/
def Obligations.FourthTimeoutFaultsBay : Prop :=
  ∀ (s : State) (b : BayId) (c : Cycle) (r : CycleRun) (head : Entry) (rest : List Entry) (before : BeforeReport),
    BayListLaw s → s.Serves b c r head rest → (s.bay b).engine.stopAfterCycle = false →
    (s.bay b).engine.timeoutStreak = 3 →
    ∃ u v t, exec (.accessTimerExpiry b before) s = .next t ∧
      (EntryEnded s u b .bayTimeout head ∧
        u.bay b =
          { s.bay b with
            list := rest,
            engine := { (s.bay b).engine with
              state := .idle, work := .none, effectiveWidth := none, effectiveWaitClass := none, cycle := none,
              stopAfterCycle := false, timeoutStreak := 4 } } ∧
        u.bus = { s.bus with driven := none } ∧ (∀ x, x ≠ b → u.bay x = s.bay x) ∧ u.link = s.link ∧
        u.windows = s.windows ∧ u.mgmt = s.mgmt ∧ u.starvation = s.starvation ∧ u.straps = s.straps) ∧
      (commandBefore b before = none → v = u) ∧ (∀ i, commandBefore b before = some i → exec i u = .next v) ∧
      ((v.bay b).life.state ∈ [BayState.ready, .quiescing] →
        BayFaulted v t b .unresponsive ∧ (t.bay b).pgood = (v.bay b).pgood) ∧
      ((v.bay b).life.state ∉ [BayState.ready, .quiescing] → t = v) ∧
      (before = .nothing ∨ before = .quiesceCompletion →
        (t.bay b).list = [] ∧ (t.bay b).engine.WithoutWork ∧ (t.bay b).engine.timeoutStreak = 4 ∧
        (s.bay b).SameLines (t.bay b) ∧ PurgeCredits s t (head :: rest) ∧ t.bus = { s.bus with driven := none } ∧
        (∀ x, x ≠ b → t.bay x = s.bay x) ∧ t.link = s.link ∧ t.windows = s.windows ∧ t.mgmt = s.mgmt ∧
        t.starvation = s.starvation ∧ t.straps = s.straps ∧
        (before = .quiesceCompletion → (s.bay b).life.state = .quiescing → rest = [] →
          (t.bay b).life = (s.bay b).life.quiescedWith (s.bay b).life.mrdySeen ∧
          t.answerOrder = s.answerOrder ++ purgeAnswers .bayTimeout [head] ∧
          t.notice = (s.notice.purgeRaises b .bayTimeout [head]).raise (.bay b .quiesced) none) ∧
        (¬(before = .quiesceCompletion ∧ (s.bay b).life.state = .quiescing ∧ rest = []) →
          (t.bay b).life = (s.bay b).life.faulted .unresponsive ∧
          t.answerOrder = s.answerOrder ++ purgeAnswers .bayTimeout [head] ++ purgeAnswers .bayFault rest ∧
          t.notice = ((s.notice.purgeRaises b .bayTimeout [head]).purgeRaises b .bayFault rest).raise (.bay b .fault)
            (some .unresponsive)))

/-- Under stop-after-cycle the request ends with QUIESCED at the end of its cycle, whichever end that is, and the timeout
streak is unchanged. The streak at an ERROR end is the model's reading of R66 against R61 (log 16). The bay stays
QUIESCING until QUIESCE_COMPLETION, which is the model's reading too (log 27), and that a PORT_STORE's own data is emptied
is its choice (log 30). -/
def Obligations.StopAfterCycleEndsQuiesced : Prop :=
  ∀ (s : State) (b : BayId) (c : Cycle) (r : CycleRun) (head ended : Entry) (rest : List Entry)
    (lanes : BitVec 16) (i : Instr), BayListLaw s → s.Serves b c r head rest →
    (s.bay b).engine.stopAfterCycle = true →
    ((EndsCycle i b r false lanes ∧
        ended = head.advanced c.bytes
          (if c.wide then [lanes.extractLsb' 0 8, lanes.extractLsb' 8 8] else [lanes.extractLsb' 0 8])) ∨
     (EndsCycle i b r true lanes ∧ ended = head) ∨
     (∃ q, i = .accessTimerExpiry b q ∧ ended = head)) →
    ∃ t, exec i s = .next t ∧
      RequestEnded s t b .quiesced (s.bay b).engine.timeoutStreak ended rest

/-- The profile read in PROFILING: each normal end keeps one byte; sixteen bytes that pass their checks make the bay READY;
a header that fails, an ERROR end and an expiry of the access timer fault it with PROFILE_BAD. The checks are those of the
signature, the format version, the width capability, the minimum wait class and the checksum, and the summary holds what
the header says. -/
def Obligations.ProfileReadDecidesBay : Prop :=
  ∀ (s : State) (b : BayId) (c : Cycle) (r : CycleRun) (lanes : BitVec 16) (i : Instr) (d : BusCycle),
    (s.bay b).engine.state = .inCycle → (s.bay b).engine.cycle = some c → c.run = some r →
    (s.bay b).engine.work = .profileRead → (s.bay b).life.state = .profiling →
    s.bus.driven = some d → d.bay = b →
    (EndsCycle i b r false lanes → (s.bay b).engine.profileBytes.length < 15 →
      exec i s = .next ((s.setBus { s.bus with driven := none }).setBay b
        { s.bay b with
          engine := { (s.bay b).engine with
            state := .awaitingBus,
            cycle := some
              { address := (s.bay b).engine.profileBytes.length + 1, space := .profile, wide := false, write := false,
                run := none },
            profileBytes := (s.bay b).engine.profileBytes ++ [lanes.extractLsb' 0 8] } })) ∧
    (∀ m : ProfileSummary, EndsCycle i b r false lanes → (s.bay b).engine.profileBytes.length = 15 →
      headerSummary ((s.bay b).engine.profileBytes ++ [lanes.extractLsb' 0 8]) = some m →
      ∃ t, exec i s = .next t ∧
        (t.bay b).life =
          { (s.bay b).life with state := .ready, summary := some m, timer := none } ∧
        (t.bay b).engine.timeoutStreak = 0 ∧ (t.bay b).engine.WithoutWork ∧
        (t.bay b).list = (s.bay b).list ∧ (s.bay b).SameLines (t.bay b) ∧ t.bus = { s.bus with driven := none } ∧
        t.notice = s.notice.raise (.bay b .ready) none ∧ (∀ x, x ≠ b → t.bay x = s.bay x) ∧ t.link = s.link ∧
        t.ledger = s.ledger ∧ t.windows = s.windows ∧ t.answerOrder = s.answerOrder ∧ t.mgmt = s.mgmt ∧
        t.starvation = s.starvation ∧ t.straps = s.straps) ∧
    ((EndsCycle i b r false lanes ∧ (s.bay b).engine.profileBytes.length = 15 ∧
        headerSummary ((s.bay b).engine.profileBytes ++ [lanes.extractLsb' 0 8]) = none) ∨
     EndsCycle i b r true lanes ∨ (∃ q, i = .accessTimerExpiry b q) →
      ∃ t, exec i s = .next t ∧ BayFaulted s t b .profileBad) ∧
    (∀ (h0 h1 h2 h3 h4 h5 h6 h7 h8 h9 hA hB hC hD hE hF : Byte) (m : ProfileSummary),
      headerSummary [h0, h1, h2, h3, h4, h5, h6, h7, h8, h9, hA, hB, hC, hD, hE, hF] = some m ↔
        h0 = 0xB4 ∧ h1 = 0x2E ∧ h4 = 1 ∧ (h5 = 8 ∨ h5 = 16) ∧ h6.toNat < 4 ∧
        (h0.toNat + h1.toNat + h2.toNat + h3.toNat + h4.toNat + h5.toNat + h6.toNat + h7.toNat + h8.toNat + h9.toNat +
          hA.toNat + hB.toNat + hC.toNat + hD.toNat + hE.toNat + hF.toNat) % 256 = 0 ∧
        m.kind.toNat = h2.toNat + 256 * h3.toNat ∧ (m.widthCapability = .w8 ↔ h5 = 8) ∧
        m.minWaitClass.val = h6.toNat ∧ m.attentionSupported = h7.getLsbD 0 ∧
        m.serial = [h8, h9, hA, hB, hC, hD])

/-! ## The bay lifecycle -/

/-- A presence contact that changes: EMPTY enters SETTLING when both are asserted, SETTLING returns to EMPTY when one is
deasserted, and from IDENTIFYING on the removal filter times exactly while one is deasserted. -/
def Obligations.ContactsMovePresence : Prop :=
  ∀ (s : State) (b : BayId) (c : Contact) (up down : Bay),
    up = (s.bay b).setContact c true → down = (s.bay b).setContact c false →
    ((s.bay b).life.state = .empty → up.present = true →
      exec (.presenceContactAsserted b c) s = .next (s.setBay b
        { up with life := { up.life with state := .settling, timer := some .stablePresence } })) ∧
    ((s.bay b).life.state = .settling ∨ up.present = false →
      exec (.presenceContactAsserted b c) s = .next (s.setBay b up)) ∧
    ((s.bay b).life.state ≠ .empty → (s.bay b).life.state ≠ .settling → up.present = true →
      exec (.presenceContactAsserted b c) s = .next (s.setBay b { up with life := { up.life with filter := .idle } })) ∧
    ((s.bay b).life.state = .empty → exec (.presenceContactDeasserted b c) s = .next (s.setBay b down)) ∧
    ((s.bay b).life.state = .settling →
      exec (.presenceContactDeasserted b c) s = .next (s.setBay b
        { down with life := { down.life with state := .empty, timer := none } })) ∧
    ((s.bay b).life.state ≠ .empty → (s.bay b).life.state ≠ .settling →
      exec (.presenceContactDeasserted b c) s = .next (s.setBay b
        { down with life := { down.life with filter := .timing } }))

/-- The reports of a bay: INSERTED at the stable presence expiry in SETTLING, with the entry to IDENTIFYING; ATTENTION at a
rising edge in READY where it is supported; QUIESCED at the completion of a quiesce in QUIESCING with an empty list. Each of
the three commands changes nothing elsewhere.
MRDY seen is kept at the completion (log 18). That an expiry without its running timer, and a completion without a
quiescing bay and an empty list, change nothing is the model's reading (log 4). -/
def Obligations.BayEventsAreRaised : Prop :=
  ∀ (s : State) (b : BayId),
    ((s.bay b).life.state = .settling → (s.bay b).life.timer = some .stablePresence →
      exec (.stablePresenceExpiry b) s = .next ((s.setBay b
        { s.bay b with
          life := { (s.bay b).life with
            state := .identifying, timer := some .senseSettle, faultReason := none, lamp := .off,
            filter := if (s.bay b).present then (s.bay b).life.filter else .timing } }).raise
        (.bay b .inserted) none)) ∧
    ((s.bay b).life.state ≠ .settling ∨ (s.bay b).life.timer ≠ some .stablePresence →
      exec (.stablePresenceExpiry b) s = .next s) ∧
    (∀ m : ProfileSummary, (s.bay b).life.state = .ready → (s.bay b).life.summary = some m →
      m.attentionSupported = true →
      exec (.attnRisingEdge b) s = .next (s.raise (.bay b .attention) none)) ∧
    ((s.bay b).life.state ≠ .ready ∨
      (∀ m : ProfileSummary, (s.bay b).life.summary = some m → m.attentionSupported = false) →
      exec (.attnRisingEdge b) s = .next s) ∧
    ((s.bay b).life.state = .quiescing → (s.bay b).list = [] →
      exec (.quiesceCompletion b) s = .next ((s.setBay b
        { s.bay b with life := (s.bay b).life.quiescedWith (s.bay b).life.mrdySeen }).raise (.bay b .quiesced) none)) ∧
    ((s.bay b).life.state ≠ .quiescing ∨ (s.bay b).list ≠ [] → exec (.quiesceCompletion b) s = .next s)

/-- The sense settle expiry sets the module class from the sense pair and leaves IDENTIFYING: FAULTED for UNRECOGNIZED,
POWERING at class L or H under auto_power, UNPOWERED without it. -/
def Obligations.SenseLinesIdentifyModule : Prop :=
  ∀ (s : State) (b : BayId) (sense1 sense0 : Bool), (s.bay b).life.state = .identifying →
    (s.bay b).life.timer = some .senseSettle →
    (sense1 = true → sense0 = true →
      ∃ t, exec (.senseSettleExpiry b sense1 sense0) s = .next t ∧
        BayFaulted
          (s.setBay b { s.bay b with life := { (s.bay b).life with moduleClass := some .unrecognized } }) t b
          .unrecognized) ∧
    (∀ (m : ModuleClass) (supply : Supply),
      ((sense1 = false ∧ sense0 = false ∧ m = .both ∧ supply = .l) ∨
       (sense1 = false ∧ sense0 = true ∧ m = .lOnly ∧ supply = .l) ∨
       (sense1 = true ∧ sense0 = false ∧ m = .hOnly ∧ supply = .h)) →
      ((s.bay b).life.policy.autoPower = false →
        exec (.senseSettleExpiry b sense1 sense0) s = .next (s.setBay b
          { s.bay b with
            life := { (s.bay b).life with moduleClass := some m, timer := none, state := .unpowered } })) ∧
      ((s.bay b).life.policy.autoPower = true → (s.bay b).pgood = false →
        exec (.senseSettleExpiry b sense1 sense0) s = .next (s.setBay b
          { s.bay b with
            life := { (s.bay b).life with
              moduleClass := some m, state := .powering, supply := supply, phase := some .awaitingPgood,
              timer := some .powerGoodWait, lamp := .off, mrstAsserted := true } })) ∧
      ((s.bay b).life.policy.autoPower = true → (s.bay b).pgood = true →
        exec (.senseSettleExpiry b sense1 sense0) s = .next (s.setBay b
          { s.bay b with
            life := { (s.bay b).life with
              moduleClass := some m, state := .powering, supply := supply, phase := some .settlingPower,
              timer := some .powerSettle, lamp := .off, mrstAsserted := true } })))

/-- Power-up: PGOOD begins the settle, its end enters RESETTING, the reset's end releases MRST and enters PROFILING, and
MRDY, then or later, begins the profile read. -/
def Obligations.PowerUpProceeds : Prop :=
  ∀ (s : State) (b : BayId),
    ((s.bay b).life.state = .powering → (s.bay b).life.phase = some .awaitingPgood →
      exec (.pgoodArrival b) s = .next (s.setBay b
        { s.bay b with
          pgood := true,
          life := { (s.bay b).life with phase := some .settlingPower, timer := some .powerSettle } })) ∧
    ((s.bay b).life.state ≠ .powering ∨ (s.bay b).life.phase ≠ some .awaitingPgood →
      exec (.pgoodArrival b) s = .next (s.setBay b { s.bay b with pgood := true })) ∧
    ((s.bay b).life.state = .powering → (s.bay b).life.timer = some .powerSettle →
      exec (.powerSettleExpiry b) s = .next (s.setBay b
        { s.bay b with
          life := { (s.bay b).life with state := .resetting, phase := none, timer := some .moduleReset } })) ∧
    ((s.bay b).life.state = .resetting → (s.bay b).life.timer = some .moduleReset →
      exec (.moduleResetExpiry b false) s = .next (s.setBay b
        { s.bay b with
          life := { (s.bay b).life with
            state := .profiling, mrstAsserted := false, mrdySeen := false, timer := some .ready } })) ∧
    (∀ (i : Instr) (l : Lifecycle),
      ((i = .moduleResetExpiry b true ∧ (s.bay b).life.state = .resetting ∧
          (s.bay b).life.timer = some .moduleReset ∧
          l = { (s.bay b).life with
                state := .profiling, mrstAsserted := false, mrdySeen := true, timer := none }) ∨
       (i = .mrdyArrival b ∧ (s.bay b).life.state = .profiling ∧ (s.bay b).life.mrdySeen = false ∧
          l = { (s.bay b).life with mrdySeen := true, timer := none })) →
      exec i s = .next (s.setBay b
        { s.bay b with
          life := l,
          engine := { (s.bay b).engine with
            state := .awaitingBus, work := .profileRead, effectiveWidth := none, effectiveWaitClass := none,
            cycle := some { address := 0, space := .profile, wide := false, write := false, run := none },
            profileBytes := [] } }))

/-- The events that fault a bay: the power-good wait's expiry and a watched loss of PGOOD with POWER_FAIL, the ready
timer's expiry with READY_TIMEOUT. Where PGOOD is not watched, its loss changes its level alone.
That the purge empties a PORT_STORE's own data is the model's choice (log 30). -/
def Obligations.FaultEventsFaultBay : Prop :=
  ∀ (s : State) (b : BayId),
    ((s.bay b).life.state = .powering → (s.bay b).life.timer = some .powerGoodWait →
      ∃ t, exec (.powerGoodWaitExpiry b) s = .next t ∧ BayFaulted s t b .powerFail ∧
        (t.bay b).pgood = (s.bay b).pgood) ∧
    ((s.bay b).life.state = .profiling → (s.bay b).life.timer = some .ready →
      ∃ t, exec (.readyTimerExpiry b) s = .next t ∧ BayFaulted s t b .readyTimeout ∧
        (t.bay b).pgood = (s.bay b).pgood) ∧
    (((s.bay b).life.state = .powering ∧ (s.bay b).life.phase = some .settlingPower) ∨
      (s.bay b).life.state ∈ [BayState.resetting, .profiling, .ready, .quiescing] →
      ∃ t, exec (.pgoodLoss b) s = .next t ∧ BayFaulted s t b .powerFail ∧ (t.bay b).pgood = false) ∧
    (((s.bay b).life.state = .powering ∧ (s.bay b).life.phase ≠ some .settlingPower) ∨
      (s.bay b).life.state ∈ [BayState.empty, .settling, .identifying, .unpowered, .quiesced, .faulted] →
      exec (.pgoodLoss b) s = .next (s.setBay b { s.bay b with pgood := false }))

/-- The removal at the expiry of the removal timer: the bay's lines and items, its purge with GONE, its engine without
work, its windows by the policy, REMOVED, and EMPTY, or SETTLING at once with both contacts asserted.
That the purge empties a PORT_STORE's own data is the model's choice (log 30). -/
def Obligations.RemovalEmptiesBay : Prop :=
  ∀ (s : State) (b : BayId), (s.bay b).life.state ≠ .empty → (s.bay b).life.state ≠ .settling →
    (s.bay b).life.filter = .timing →
    ∃ t, exec (.removalTimerExpiry b) s = .next t ∧
      (t.bay b).life =
        { (s.bay b).life with
          state := if (s.bay b).present then .settling else .empty,
          timer := if (s.bay b).present then some .stablePresence else none,
          supply := .none, mrstAsserted := true, phase := none, mrdySeen := false, summary := none,
          quiesceMode := none, faultReason := none, moduleClass := none, lamp := .off, filter := .idle } ∧
      (t.bay b).list = [] ∧ (t.bay b).engine.WithoutWork ∧
      (t.bay b).engine.timeoutStreak = (s.bay b).engine.timeoutStreak ∧ (s.bay b).SameLines (t.bay b) ∧
      BusReleased s t b ∧ PurgeCredits s t (s.bay b).list ∧
      t.answerOrder = s.answerOrder ++ purgeAnswers .gone (s.bay b).list ∧
      t.notice = (s.notice.purgeRaises b .gone (s.bay b).list).raise (.bay b .removed) none ∧
      ((s.bay b).life.policy.windowsOnRemoval = .keep → t.windows = s.windows) ∧
      ((s.bay b).life.policy.windowsOnRemoval = .clear →
        ∀ j : Fin 32, t.windows[j] =
          { s.windows[j] with valid := s.windows[j].valid && decide (s.windows[j].bay ≠ b) }) ∧
      (∀ x, x ≠ b → t.bay x = s.bay x) ∧ t.link = s.link ∧ t.mgmt = s.mgmt ∧ t.starvation = s.starvation ∧
      t.straps = s.straps

/-! ## The Transmit Arbiter -/

/-- The placement of a GRANT, ahead of every other class unless a notice has waited behind eight packets: every pool's
credits pending return become outstanding. The grant timer's expiry makes one wanted. While the link is not UP or the
replay list is full nothing is placed. -/
def Obligations.GrantsReturnCredits : Prop :=
  ∀ (s : State),
    (s.ledger.grantTimer = true →
      exec .grantTimerExpiry s = .next (s.setLedger
        { s.ledger with
          grantTimer := false,
          grantExpired := s.ledger.grantExpired || decide (0 < s.ledger.pendingTotal) })) ∧
    (s.link.state = .up → s.link.replay.length < 16 → s.starvation < 8 ∨ s.notice.queue = [] →
      0 < s.ledger.pendingTotal →
      (4 ≤ s.ledger.store.pendingReturn ∨ 4 ≤ s.ledger.request.pendingReturn ∨ 1 ≤ s.ledger.mgmt.pendingReturn ∨
        s.ledger.grantExpired = true ∨ s.ledger.seedDue = true) →
      exec .placeGrant s = .next (((s.setLink
        { s.link with
          transmitNext := s.link.transmitNext + 1,
          replay := s.link.replay ++ [⟨s.link.transmitNext,
            .grant s.ledger.store.pendingReturn s.ledger.request.pendingReturn s.ledger.mgmt.pendingReturn⟩],
          timers := { s.link.timers with replay := s.link.timers.replay || s.link.replay.isEmpty },
          tx := s.link.tx.sendPlaced ⟨s.link.transmitNext,
            .grant s.ledger.store.pendingReturn s.ledger.request.pendingReturn s.ledger.mgmt.pendingReturn⟩
        }).setStarvation (if s.notice.queue.isEmpty then s.starvation else s.starvation + 1)).setLedger
        { store := ⟨s.ledger.store.outstanding + s.ledger.store.pendingReturn, 0⟩,
          request := ⟨s.ledger.request.outstanding + s.ledger.request.pendingReturn, 0⟩,
          mgmt := ⟨s.ledger.mgmt.outstanding + s.ledger.mgmt.pendingReturn, 0⟩,
          grantTimer := false, grantExpired := false, seedDue := false })) ∧
    (s.link.state ≠ .up ∨ 16 ≤ s.link.replay.length →
      exec .placeGrant s = .next s ∧ exec .placeMgmtResp s = .next s ∧ exec .placeAnswer s = .next s ∧
      exec .placeNotice s = .next s)

/-- The placement of the response on offer, when no GRANT is wanted: the MGMT credit becomes pending return, and the first
response placed while a BRIDGE_RESET is pending starts the reset timer.
Which response starts the timer is the model's reading (log 19). -/
def Obligations.ResponseIsPlaced : Prop :=
  ∀ (s : State) (r : MgmtResp), s.link.state = .up → s.link.replay.length < 16 →
    s.starvation < 8 ∨ s.notice.queue = [] → s.ledger.grantWanted = false → s.mgmt.busy = true →
    s.mgmt.last = some r →
    ∃ t, exec .placeMgmtResp s = .next t ∧ t.link = s.link.place (.mgmtResp r) ∧
      t.starvation = (if s.notice.queue.isEmpty then s.starvation else s.starvation + 1) ∧
      t.ledger =
        { s.ledger with
          mgmt := ⟨s.ledger.mgmt.outstanding, s.ledger.mgmt.pendingReturn + 1⟩,
          grantTimer := s.ledger.grantTimer || (s.ledger.pendingTotal == 0) } ∧
      (s.mgmt.resetPending = true → s.mgmt.resetFrame = none →
        t.mgmt = { s.mgmt with busy := false, resetTimer := true, resetFrame := some s.link.transmitNext }) ∧
      (s.mgmt.resetPending = false ∨ s.mgmt.resetFrame ≠ none → t.mgmt = { s.mgmt with busy := false }) ∧
      t.windows = s.windows ∧ t.bays = s.bays ∧ t.answerOrder = s.answerOrder ∧ t.bus = s.bus ∧
      t.notice = s.notice ∧ t.straps = s.straps

/-- The placement of the ANSWER of the head of the answer order list: its entry is freed and its credit pending return; the
packet carries data for a fetch answered OK alone. -/
def Obligations.AnswerIsPlaced : Prop :=
  ∀ (s : State) (e : OpenEntry) (rest : List OpenEntry) (status : AnswerStatus), s.link.state = .up →
    s.link.replay.length < 16 → s.starvation < 8 ∨ s.notice.queue = [] → s.ledger.grantWanted = false →
    s.mgmt.busy = false → s.answerOrder = e :: rest → e.status = some status →
    ∃ t, exec .placeAnswer s = .next t ∧
      t.link = s.link.place
        (.answer e.tag status (if status = .ok ∧ e.kind ≠ .portStore then e.data else [])) ∧
      t.starvation = (if s.notice.queue.isEmpty then s.starvation else s.starvation + 1) ∧
      t.answerOrder = rest ∧
      t.ledger =
        { s.ledger with
          request := ⟨s.ledger.request.outstanding, s.ledger.request.pendingReturn + 1⟩,
          grantTimer := s.ledger.grantTimer || (s.ledger.pendingTotal == 0) } ∧
      t.windows = s.windows ∧ t.bays = s.bays ∧ t.bus = s.bus ∧ t.notice = s.notice ∧ t.mgmt = s.mgmt ∧
      t.straps = s.straps

/-- The placement of the head NOTICE, when no other class waits or the starvation count is 8: the record leaves the queue,
the notice sequence number advances, and the count is 0.
That a kind placed keeps its announced also where it is no is the model's choice (log 35). -/
def Obligations.NoticeIsPlaced : Prop :=
  ∀ (s : State) (r : NoticeRecord) (rest : List NoticeRecord), s.link.state = .up → s.link.replay.length < 16 →
    s.notice.queue = r :: rest →
    (8 ≤ s.starvation ∨ (s.ledger.grantWanted = false ∧ s.mgmt.busy = false ∧ s.answerOrder = [])) →
    exec .placeNotice s = .next (((s.setLink
      (s.link.place (.notice s.notice.nextSeq r.source r.kinds))).setNotice
      { s.notice with queue := rest, nextSeq := s.notice.nextSeq + 1 }).setStarvation 0)

/-! ## The management commands -/

/-- A MGMT packet that repeats the last number is not executed: its code and operands are not examined, and the last
response is on offer again. Commands of one packet have one effect, under whatever row they are named.
That a MGMT packet is executed in the step that hands it over is the model's choice (log 6). -/
def Obligations.RepeatedNumberReplaysResponse : Prop :=
  ∀ (s : State) (i : Instr) (q code : Byte) (o : List Byte), mgmtFields i = some (q, code, o) →
    exec i s = exec (.mgmtSequenceReplay q code o) s ∧
    (s.HasCredit .mgmt → s.mgmt.last.map MgmtResp.seq = some q →
      exec i s = .next ((s.consumed .mgmt).setMgmt { s.mgmt with busy := true }))

/-- A command code outside the table is answered BAD_COMMAND, and operands outside a command's list BAD_OPERAND; neither
changes any block but the management context. -/
def Obligations.BadCommandsAreRefused : Prop :=
  ∀ (s : State) (q : Byte) (o : List Byte), s.AcceptsMgmt q →
    (∀ code, code ∉ commandCodes →
      exec (.unknownCommand q code o) s = .next (s.responded q .badCommand [])) ∧
    (∀ i : Instr,
      ((i = .identify q o ∨ i = .bridgeReset q o) ∧ o ≠ []) ∨
      (i = .windowWrite q o ∧ windowWriteOperands o = none) ∨
      ((i = .windowRead q o ∨ i = .windowClear q o) ∧ ∀ x : Byte, o = [x] → 32 ≤ x.toNat) ∨
      ((i = .windowClearBay q o ∨ i = .bayStatus q o ∨ i = .bayRestart q o) ∧ ∀ x : Byte, o = [x] → 6 ≤ x.toNat) ∨
      (i = .bayPolicy q o ∧
        ∀ b a r t : Byte, o = [b, a, r, t] → 6 ≤ b.toNat ∨ 2 ≤ a.toNat ∨ 2 ≤ r.toNat ∨ t.toNat < 2) ∨
      (i = .powerOn q o ∧ ∀ b c : Byte, o = [b, c] → 6 ≤ b.toNat ∨ (c ≠ 1 ∧ c ≠ 2)) ∨
      (i = .quiesce q o ∧ ∀ b m : Byte, o = [b, m] → 6 ≤ b.toNat ∨ 2 ≤ m.toNat) ∨
      (i = .eventRead q o ∧ ∀ x : Byte, o = [x] → 7 ≤ x.toNat) ∨
      ((i = .eventEnable q o ∨ i = .eventClear q o) ∧
        ∀ x k : Byte, o = [x, k] →
          7 ≤ x.toNat ∨ (x.toNat < 6 ∧ k.getLsbD 7 = true) ∨ (x.toNat = 6 ∧ 8 ≤ k.toNat)) ∨
      (i = .eventInject q o ∧
        ∀ x k : Byte, o = [x, k] →
          7 ≤ x.toNat ∨ (x.toNat < 6 ∧ k ∉ [0x01#8, 0x02#8, 0x04#8, 0x08#8, 0x10#8, 0x20#8, 0x40#8]) ∨
          (x.toNat = 6 ∧ k ∉ [0x01#8, 0x02#8, 0x04#8])) ∨
      (i = .countersRead q o ∧ ∀ x : Byte, o = [x] → 2 ≤ x.toNat) →
      exec i s = .next (s.responded q .badOperand []))

/-- The window commands with legal operands: WINDOW_WRITE replaces the whole entry unless it would overlap a valid window
of its family at another index, WINDOW_READ returns the entry, WINDOW_CLEAR and WINDOW_CLEAR_BAY set valid to no. -/
def Obligations.WindowCommandsChangeTable : Prop :=
  ∀ (s : State) (q : Byte), s.AcceptsMgmt q →
    (∀ (o : List Byte) (index : Fin 32) (w : Window), windowWriteOperands o = some (index, w) →
      (w.valid = false ∨ (∀ j : Fin 32, j ≠ index → s.windows[j].valid = true → w.overlaps s.windows[j] = false) →
        exec (.windowWrite q o) s = .next ((s.setWindows (s.windows.set index w)).responded q .done [])) ∧
      (w.valid = true → (∃ j : Fin 32, j ≠ index ∧ s.windows[j].valid = true ∧ w.overlaps s.windows[j] = true) →
        exec (.windowWrite q o) s = .next (s.responded q .overlap []))) ∧
    (∀ (x : Byte) (h : x.toNat < 32),
      exec (.windowRead q [x]) s = .next (s.responded q .done (s.windows[x.toNat]'h).resultBytes) ∧
      exec (.windowClear q [x]) s = .next
        ((s.setWindows (s.windows.set x.toNat { s.windows[x.toNat]'h with valid := false } h)).responded q .done
          [])) ∧
    (∀ (x : Byte) (b : BayId), x.toNat = b.toNat →
      ∃ t, exec (.windowClearBay q [x]) s = .next ((s.setWindows t).responded q .done
          [BitVec.ofNat 8 (s.windows.toList.countP (fun w => w.valid && decide (w.bay = b)))]) ∧
        ∀ j : Fin 32, t[j] = { s.windows[j] with valid := s.windows[j].valid && decide (s.windows[j].bay ≠ b) }) ∧
    (∀ x : Byte, 32 ≤ x.toNat →
      exec (.windowRead q [x]) s = .next (s.responded q .badOperand []) ∧
      exec (.windowClear q [x]) s = .next (s.responded q .badOperand [])) ∧
    (∀ x : Byte, 6 ≤ x.toNat → exec (.windowClearBay q [x]) s = .next (s.responded q .badOperand []))

/-- WINDOW_WRITE takes the index and the nine fields of an entry from its operands, each from its own bytes, and accepts
exactly a legal window, whatever its valid is. Operands of another length, a byte missing or one over, are not accepted,
and BadCommandsAreRefused says that WINDOW_WRITE answers what is not accepted with BAD_OPERAND. -/
def Obligations.WindowWriteChecksEveryField : Prop :=
  (∀ operands : List Byte, operands.length ≠ 21 → windowWriteOperands operands = none) ∧
  ∀ (index valid bay space width waitClass protect s0 s1 u0 u1 u2 u3 u4 u5 u6 u7 b0 b1 b2 b3 : Byte),
    ((∃ p, windowWriteOperands
        [index, valid, bay, space, width, waitClass, protect, s0, s1, u0, u1, u2, u3, u4, u5, u6, u7, b0, b1, b2, b3]
        = some p) ↔
      ∃ n base bayBase granule upstream size : Nat,
        n = leNat [s0, s1] ∧ base = leNat [u0, u1, u2, u3, u4, u5, u6, u7] ∧ bayBase = leNat [b0, b1, b2, b3] ∧
        ((space.toNat = 0 ∧ granule = 4096 ∧ upstream = 2 ^ 48 ∧ size = 2 ^ 24) ∨
         (space.toNat = 1 ∧ granule = 4096 ∧ upstream = 2 ^ 48 ∧ size = 2 ^ 16) ∨
         (space.toNat = 2 ∧ granule = 16 ∧ upstream = 2 ^ 32 ∧ size = 2 ^ 16)) ∧
        index.toNat < 32 ∧ valid.toNat < 2 ∧ bay.toNat < 6 ∧ (width.toNat = 8 ∨ width.toNat = 16) ∧
        waitClass.toNat < 4 ∧ protect.toNat < 2 ∧ 1 ≤ n ∧ n ≤ 4096 ∧ base % granule = 0 ∧
        base + n * granule ≤ upstream ∧ bayBase % granule = 0 ∧ bayBase + n * granule ≤ size) ∧
    (∀ (i : Fin 32) (w : Window), windowWriteOperands
        [index, valid, bay, space, width, waitClass, protect, s0, s1, u0, u1, u2, u3, u4, u5, u6, u7, b0, b1, b2, b3]
        = some (i, w) →
      i.val = index.toNat ∧ w.bay.toNat = bay.toNat ∧ w.waitClass.val = waitClass.toNat ∧
      ((w.valid = false ∧ valid.toNat = 0) ∨ (w.valid = true ∧ valid.toNat = 1)) ∧
      ((w.space = .bulk ∧ space.toNat = 0) ∨ (w.space = .profile ∧ space.toNat = 1) ∨
        (w.space = .port ∧ space.toNat = 2)) ∧
      ((w.width = .w8 ∧ width.toNat = 8) ∨ (w.width = .w16 ∧ width.toNat = 16)) ∧
      ((w.protect = .writable ∧ protect.toNat = 0) ∨ (w.protect = .readOnly ∧ protect.toNat = 1)) ∧
      w.granules = s0.toNat + 256 * s1.toNat ∧
      w.upstreamBase = u0.toNat + 2 ^ 8 * u1.toNat + 2 ^ 16 * u2.toNat + 2 ^ 24 * u3.toNat + 2 ^ 32 * u4.toNat +
        2 ^ 40 * u5.toNat + 2 ^ 48 * u6.toNat + 2 ^ 56 * u7.toNat ∧
      w.bayBase = b0.toNat + 2 ^ 8 * b1.toNat + 2 ^ 16 * b2.toNat + 2 ^ 24 * b3.toNat)

/-- The commands that read: IDENTIFY, BAY_STATUS and EVENT_READ return what stands at the acceptance and change nothing;
COUNTERS_READ returns the six counters, and with clear set to yes sets them to 0. -/
def Obligations.ReadCommandsReport : Prop :=
  ∀ (s : State) (q : Byte), s.AcceptsMgmt q →
    exec (.identify q []) s = .next (s.responded q .done
      [0x2B, 0x4D, 0x06, 0x24, 0x03, s.straps.zeroExtend 8, s.link.epoch, 24, 32, 1, 32]) ∧
    (∀ (x : Byte) (b : BayId), x.toNat = b.toNat →
      exec (.bayStatus q [x]) s = .next (s.responded q .done (s.bay b).reportBytes)) ∧
    (∀ (x : Byte) (source : Source), x = source.code →
      exec (.eventRead q [x]) s =
        .next (s.responded q .done (source.events.flatMap (fun e => (s.notice.record e).readBytes)))) ∧
    exec (.countersRead q [0]) s = .next (s.responded q .done s.link.counters.resultBytes) ∧
    exec (.countersRead q [1]) s = .next ((s.setLink { s.link with counters :=
        { checkErrors := 0, resendsSent := 0, resendsReceived := 0, replayExhaustions := 0, linkDowns := 0,
          overruns := 0 } }).responded q .done s.link.counters.resultBytes)

/-- BAY_POLICY writes the three settings as one change, in every bay state. BRIDGE_RESET becomes pending and changes
nothing else at its acceptance. -/
def Obligations.PolicyAndResetCommandsAreDone : Prop :=
  ∀ (s : State) (q : Byte), s.AcceptsMgmt q →
    (∀ (x timer : Byte) (b : BayId) (autoPower clear : Bool), x.toNat = b.toNat → 2 ≤ timer.toNat →
      exec (.bayPolicy q [x, boolCode autoPower, boolCode clear, timer]) s = .next ((s.setBay b { s.bay b with
          life := { (s.bay b).life with
            policy :=
              { autoPower := autoPower, windowsOnRemoval := if clear then .clear else .keep,
                accessTimer := timer.toNat } } }).responded q .done [])) ∧
    exec (.bridgeReset q []) s = .next ((s.setMgmt { s.mgmt with resetPending := true }).responded q .done [])

/-- POWER_ON powers an UNPOWERED or QUIESCED bay at a class its module supports, with PGOOD already asserted taken at once;
BAY_RESTART returns a FAULTED or QUIESCED bay to IDENTIFYING; every other state refuses them. -/
def Obligations.PowerOnAndRestartMoveBay : Prop :=
  ∀ (s : State) (q x : Byte) (b : BayId) (supply : Supply) (k : Byte), s.AcceptsMgmt q → x.toNat = b.toNat →
    ((k = 1 ∧ supply = .l) ∨ (k = 2 ∧ supply = .h)) →
    ((s.bay b).life.state ∈ [BayState.unpowered, .quiesced] →
      (∀ m, (s.bay b).life.moduleClass = some m → m.supports supply = true →
        ((s.bay b).pgood = false →
          exec (.powerOn q [x, k]) s = .next ((s.setBay b
            { s.bay b with
              life := { (s.bay b).life with
                state := .powering, supply := supply, phase := some .awaitingPgood, timer := some .powerGoodWait,
                lamp := .off, mrstAsserted := true } }).responded q .done [])) ∧
        ((s.bay b).pgood = true →
          exec (.powerOn q [x, k]) s = .next ((s.setBay b
            { s.bay b with
              life := { (s.bay b).life with
                state := .powering, supply := supply, phase := some .settlingPower, timer := some .powerSettle,
                lamp := .off, mrstAsserted := true } }).responded q .done []))) ∧
      ((∀ m, (s.bay b).life.moduleClass = some m → m.supports supply = false) →
        exec (.powerOn q [x, k]) s = .next (s.responded q .supplyMismatch []))) ∧
    ((s.bay b).life.state ∈ [BayState.empty, .settling, .identifying] →
      exec (.powerOn q [x, k]) s = .next (s.responded q .noModule [])) ∧
    ((s.bay b).life.state ∈ [BayState.powering, .resetting, .profiling, .ready, .quiescing, .faulted] →
      exec (.powerOn q [x, k]) s = .next (s.responded q .wrongState [])) ∧
    ((s.bay b).life.state ∈ [BayState.faulted, .quiesced] →
      exec (.bayRestart q [x]) s = .next ((s.setBay b
        { s.bay b with
          life := { (s.bay b).life with
            state := .identifying, timer := some .senseSettle, faultReason := none, lamp := .off,
            filter := if (s.bay b).present then (s.bay b).life.filter else .timing } }).responded q .done [])) ∧
    ((s.bay b).life.state ∉ [BayState.faulted, .quiesced] →
      exec (.bayRestart q [x]) s = .next (s.responded q .wrongState []))

/-- QUIESCE by the state of the bay: at once from a bay that is not in service, by a drain or an abandonment in READY, the
conversion of a drain, and the refusals.
MRDY seen is kept where the quiesce completes and cleared where it is at once (log 18). That the purge of an abandonment
empties a PORT_STORE's own data is the model's choice (log 30). -/
def Obligations.QuiesceShutsBayDown : Prop :=
  ∀ (s : State) (q x : Byte) (b : BayId), s.AcceptsMgmt q → x.toNat = b.toNat →
    (∀ k : Byte, k.toNat < 2 →
      ((s.bay b).life.state ∈ [BayState.empty, .settling, .identifying] →
        exec (.quiesce q [x, k]) s = .next (s.responded q .noModule [])) ∧
      ((s.bay b).life.state = .quiesced ∨
        ((s.bay b).life.state = .quiescing ∧ ((s.bay b).life.quiesceMode ≠ some .drain ∨ k = 0)) →
        exec (.quiesce q [x, k]) s = .next (s.responded q .already [])) ∧
      ((s.bay b).life.state ∈ [BayState.unpowered, .powering, .resetting, .profiling, .faulted] →
        ∃ t, exec (.quiesce q [x, k]) s = .next (t.responded q .done []) ∧
          (t.bay b).life = (s.bay b).life.quiescedWith false ∧ (t.bay b).engine.WithoutWork ∧
          (t.bay b).engine.timeoutStreak = (s.bay b).engine.timeoutStreak ∧ (s.bay b).SameLines (t.bay b) ∧
          (t.bay b).list = (s.bay b).list ∧ BusReleased s t b ∧
          t.notice = s.notice.raise (.bay b .quiesced) none ∧ (∀ y, y ≠ b → t.bay y = s.bay y) ∧
          t.link = s.link ∧ t.ledger = s.ledger ∧ t.windows = s.windows ∧ t.answerOrder = s.answerOrder ∧
          t.mgmt = s.mgmt ∧ t.starvation = s.starvation ∧ t.straps = s.straps)) ∧
    ((s.bay b).life.state = .ready →
      ((s.bay b).list ≠ [] →
        exec (.quiesce q [x, 0]) s = .next ((s.setBay b
          { s.bay b with
            life := { (s.bay b).life with state := .quiescing, quiesceMode := some .drain } }).responded q .done
          [])) ∧
      ((s.bay b).list = [] →
        exec (.quiesce q [x, 0]) s = .next (((s.setBay b
          { s.bay b with life := (s.bay b).life.quiescedWith (s.bay b).life.mrdySeen }).raise
          (.bay b .quiesced) none).responded q .done []))) ∧
    (∀ status : MgmtStatus,
      ((s.bay b).life.state = .ready ∧ status = .done) ∨
      ((s.bay b).life.state = .quiescing ∧ (s.bay b).life.quiesceMode = some .drain ∧ status = .already) →
      ((s.bay b).engine.state ≠ .inCycle →
        ∃ t, exec (.quiesce q [x, 1]) s = .next (t.responded q status []) ∧
          (t.bay b).life = (s.bay b).life.quiescedWith (s.bay b).life.mrdySeen ∧ (t.bay b).list = [] ∧
          (t.bay b).engine.WithoutWork ∧ (t.bay b).engine.timeoutStreak = (s.bay b).engine.timeoutStreak ∧
          (s.bay b).SameLines (t.bay b) ∧ BusReleased s t b ∧
          PurgeCredits s t (s.bay b).list ∧
          t.answerOrder = s.answerOrder ++ purgeAnswers .quiesced (s.bay b).list ∧
          t.notice = (s.notice.purgeRaises b .quiesced (s.bay b).list).raise (.bay b .quiesced) none ∧
          (∀ y, y ≠ b → t.bay y = s.bay y) ∧ t.link = s.link ∧ t.windows = s.windows ∧ t.mgmt = s.mgmt ∧
          t.starvation = s.starvation ∧ t.straps = s.straps) ∧
      (∀ head rest, (s.bay b).engine.state = .inCycle → (s.bay b).list = head :: rest →
        ∃ t, exec (.quiesce q [x, 1]) s = .next (t.responded q status []) ∧
          (t.bay b).life = { (s.bay b).life with state := .quiescing, quiesceMode := some .abandon } ∧
          (t.bay b).list = [head] ∧ (t.bay b).engine = { (s.bay b).engine with stopAfterCycle := true } ∧
          (s.bay b).SameLines (t.bay b) ∧
          PurgeCredits s t rest ∧ t.answerOrder = s.answerOrder ++ purgeAnswers .quiesced rest ∧
          t.notice = s.notice.purgeRaises b .quiesced rest ∧ t.bus = s.bus ∧
          (∀ y, y ≠ b → t.bay y = s.bay y) ∧ t.link = s.link ∧ t.windows = s.windows ∧ t.mgmt = s.mgmt ∧
          t.starvation = s.starvation ∧ t.straps = s.straps))

/-! ## Events -/

/-- Raising an event, and EVENT_INJECT, which raises one with the reason INJECTED whatever the state of the bay or the
link: a clear flag is set with count 1 and the reason, and announced at once when enabled; a set flag counts one more and
changes nothing else. -/
def Obligations.RaisedEventsAreRecorded : Prop :=
  ∀ (s : State) (e : EventId) (reason : Option Reason),
    ((s.notice.record e).flag = true →
      ((s.raise e reason).notice.record e =
        { s.notice.record e with count := if (s.notice.record e).count < 255 then (s.notice.record e).count + 1
                                          else (s.notice.record e).count }) ∧
      (s.raise e reason).notice.queue = s.notice.queue) ∧
    ((s.notice.record e).flag = false →
      (s.raise e reason).notice.record e =
        { flag := true, count := 1, firstReason := reason, announced := (s.notice.record e).enable,
          enable := (s.notice.record e).enable } ∧
      ((s.notice.record e).enable = false → (s.raise e reason).notice.queue = s.notice.queue) ∧
      ((s.notice.record e).enable = true →
        ((∀ r ∈ s.notice.queue, r.source ≠ e.source) →
          (s.raise e reason).notice.queue = s.notice.queue ++ [{ source := e.source, kinds := e.mask }]) ∧
        (∀ before r after, s.notice.queue = before ++ r :: after → r.source = e.source →
          (∀ x ∈ before, x.source ≠ e.source) →
          (s.raise e reason).notice.queue = before ++ { r with kinds := r.kinds ||| e.mask } :: after))) ∧
    (∀ x, x ≠ e → (s.raise e reason).notice.record x = s.notice.record x) ∧
    (s.raise e reason).notice.nextSeq = s.notice.nextSeq ∧ (s.raise e reason).notice.firstUp = s.notice.firstUp ∧
    (∀ q, s.AcceptsMgmt q →
      exec (.eventInject q [e.source.code, e.mask]) s = .next ((s.raise e (some .injected)).responded q .done []))

/-- EVENT_ENABLE sets the enable of each kind of the source by the set, and announces each kind that it turns on, that is
set and not announced: these kinds join the record of the source in the notice queue, in place, or in one new record at the
tail. Records of other sources, and everything else of a record, are unchanged. -/
def Obligations.EnableAnnouncesSetKinds : Prop :=
  ∀ (s : State) (q : Byte) (source : Source) (kinds : BitVec 8), s.AcceptsMgmt q → kinds &&& ~~~source.kinds = 0#8 →
    ∃ n, exec (.eventEnable q [source.code, kinds]) s = .next ((s.setNotice n).responded q .done []) ∧
      (∀ e : EventId, e.source = source → n.record e =
        { s.notice.record e with
          enable := e.within kinds,
          announced := (s.notice.record e).announced ||
            (e.within kinds && !(s.notice.record e).enable && (s.notice.record e).flag) }) ∧
      (∀ e : EventId, e.source ≠ source → n.record e = s.notice.record e) ∧
      ((∀ e : EventId, e.source = source →
          e.within kinds = true → (s.notice.record e).enable = false → (s.notice.record e).flag = true →
          (s.notice.record e).announced = true) →
        n.queue = s.notice.queue) ∧
      (QueueLaw s.notice.queue →
        n.queue = announcedQueue
          (fun x => if x = source then
              x.kindsWhere (fun e => e.within kinds && !(s.notice.record e).enable && (s.notice.record e).flag &&
                !(s.notice.record e).announced)
            else 0#8)
          s.notice.queue) ∧
      n.nextSeq = s.notice.nextSeq ∧ n.firstUp = s.notice.firstUp

/-- EVENT_CLEAR empties the records of the kinds it names but for their enables, takes the kinds out of the source's notice
record, and returns the count and first reason each held; a queue left empty by it sets the starvation count to 0. -/
def Obligations.ClearEmptiesRecords : Prop :=
  ∀ (s : State) (q : Byte) (source : Source) (kinds : BitVec 8), s.AcceptsMgmt q → NoticeLaw s.notice →
    kinds &&& ~~~source.kinds = 0#8 →
    ∃ (n : NoticeUnit) (starvation : Nat),
      exec (.eventClear q [source.code, kinds]) s = .next
        (((s.setNotice n).setStarvation starvation).responded q .done
          ((source.events.filter (fun e => e.within kinds)).flatMap (fun e => (s.notice.record e).clearedBytes))) ∧
      (∀ e : EventId, e.source = source → e.within kinds = true →
        n.record e =
          { flag := false, count := 0, firstReason := none, announced := false,
            enable := (s.notice.record e).enable }) ∧
      (∀ e : EventId, e.source ≠ source ∨ e.within kinds = false → n.record e = s.notice.record e) ∧
      n.queue = s.notice.queue.filterMap (fun r =>
        if r.source = source then
          if r.kinds &&& ~~~kinds = 0#8 then none else some { r with kinds := r.kinds &&& ~~~kinds }
        else some r) ∧
      n.nextSeq = s.notice.nextSeq ∧ n.firstUp = s.notice.firstUp ∧
      (s.notice.queue ≠ [] → n.queue = [] → starvation = 0) ∧
      (s.notice.queue = [] ∨ n.queue ≠ [] → starvation = s.starvation)

/-! ## The laws of the device -/

/-- `State.reset` obeys every law. -/
def Obligations.ResetObeysLaws : Prop :=
  WindowLaw State.reset.windows ∧ CreditLaw State.reset ∧ PoolLaw State.reset ∧ GrantTimerLaw State.reset.ledger ∧
  NoticeLaw State.reset.notice ∧ BayLaw State.reset ∧ RequestLaw State.reset ∧ LinkLaw State.reset.link ∧
  StarvationLaw State.reset ∧ MgmtLaw State.reset

/-- Every step keeps every window entry legal and the valid windows of a family disjoint. -/
def Obligations.WindowLawIsKept : Prop :=
  ∀ s t : State, WindowLaw s.windows → step s = .next t → WindowLaw t.windows

/-- Every step keeps the law of the credit ledger: in UP the entries in use, the credits outstanding and the credits
pending return of each pool add up to its size, and otherwise both counts are 0; and the grant timer's law with it. -/
def Obligations.CreditLawIsKept : Prop :=
  ∀ s t : State, CreditLaw s → PoolLaw s → GrantTimerLaw s.ledger → step s = .next t →
    CreditLaw t ∧ PoolLaw t ∧ GrantTimerLaw t.ledger

/-- Every step keeps the law of the event records and of the notice queue. -/
def Obligations.NoticeLawIsKept : Prop :=
  ∀ s t : State, NoticeLaw s.notice → step s = .next t → NoticeLaw t.notice

/-- Every step keeps the laws of the bays: the supply, MRST and LAMP follow the state, the timer belongs to the state, the
list and the engine agree, and the bus carries the cycle of the one engine that is IN_CYCLE. -/
def Obligations.BayLawIsKept : Prop :=
  ∀ s t : State, BayLaw s → step s = .next t → BayLaw t

/-- Every step keeps the laws of the open requests: the answer order list holds answers, no tag is in force twice, and none
is in force while the link is not UP. -/
def Obligations.RequestLawIsKept : Prop :=
  ∀ s t : State, BayLaw s → RequestLaw s → step s = .next t → RequestLaw t

/-- Every step keeps the laws of the link unit: the replay list's numbers and timer, the ACK timer, the timers of each
state, an idle transmitter in DOWN, and counters within 16 bits. -/
def Obligations.LinkLawIsKept : Prop :=
  ∀ s t : State, LinkLaw s.link → step s = .next t → LinkLaw t.link

/-- Every step keeps the starvation count at most 8, and the management context's law with it. -/
def Obligations.StarvationAndMgmtLawsAreKept : Prop :=
  ∀ s t : State, (StarvationLaw s → step s = .next t → StarvationLaw t) ∧
    (MgmtLaw s → step s = .next t → MgmtLaw t)

/-- A frame of the wire formats, read back by the receiving rules, is what it was written from: a control frame, and a
sequenced frame with any payload of 1 to 80 bytes. With any other check it is a bad frame.
The bit order of the remainder is the model's reading (log 25); the operand for an event met at intake is the model's
(logs 28 and 29). -/
def Obligations.FramesReadBackAsWritten : Prop :=
  (∀ (ready : Bool) (epoch : Byte), frameCommand (WireFrame.train ready epoch).bytes = .trainReceived ready epoch) ∧
  (∀ n : LinkSeq, frameCommand (WireFrame.ack n).bytes = .ackReceived n) ∧
  (∀ n : LinkSeq, frameCommand (WireFrame.resend n).bytes = .resendReceived n) ∧
  frameCommand WireFrame.idle.bytes = .idleReceived ∧
  (∀ (n : LinkSeq) (payload : List Byte), 1 ≤ payload.length → payload.length ≤ 80 →
    frameCommand (frameBytes 0x01 n.toNat payload) = .sequencedFrameReceived n ⟨payload, .nothing⟩) ∧
  (∀ (kind : Byte) (n : LinkSeq) (payload check : List Byte), payload.length ≤ 80 →
    check ≠ checkBytes (envelope kind n.toNat payload) →
    frameCommand (envelope kind n.toNat payload ++ check) = .badFrameReceived)
end

