-- ==== Sys2Proof/Laws/State.lean ====
section
/-! SUPPORT. Reading one part of the state after replacing one part: one lemma per field per update, all by rfl, and the
same for the six bays. -/

namespace Sys2Proof.Machine

/-! ## The parts of the state -/

@[simp] theorem State.setLink_link (s : State) (x : LinkUnit) : (s.setLink x).link = x := rfl
@[simp] theorem State.setLink_ledger (s : State) (x : LinkUnit) : (s.setLink x).ledger = s.ledger := rfl
@[simp] theorem State.setLink_starvation (s : State) (x : LinkUnit) : (s.setLink x).starvation = s.starvation := rfl
@[simp] theorem State.setLink_windows (s : State) (x : LinkUnit) : (s.setLink x).windows = s.windows := rfl
@[simp] theorem State.setLink_bays (s : State) (x : LinkUnit) : (s.setLink x).bays = s.bays := rfl
@[simp] theorem State.setLink_answerOrder (s : State) (x : LinkUnit) : (s.setLink x).answerOrder = s.answerOrder := rfl
@[simp] theorem State.setLink_bus (s : State) (x : LinkUnit) : (s.setLink x).bus = s.bus := rfl
@[simp] theorem State.setLink_notice (s : State) (x : LinkUnit) : (s.setLink x).notice = s.notice := rfl
@[simp] theorem State.setLink_mgmt (s : State) (x : LinkUnit) : (s.setLink x).mgmt = s.mgmt := rfl
@[simp] theorem State.setLink_straps (s : State) (x : LinkUnit) : (s.setLink x).straps = s.straps := rfl
@[simp] theorem State.setLink_pending (s : State) (x : LinkUnit) : (s.setLink x).pending = s.pending := rfl

@[simp] theorem State.setLedger_link (s : State) (x : Ledger) : (s.setLedger x).link = s.link := rfl
@[simp] theorem State.setLedger_ledger (s : State) (x : Ledger) : (s.setLedger x).ledger = x := rfl
@[simp] theorem State.setLedger_starvation (s : State) (x : Ledger) : (s.setLedger x).starvation = s.starvation := rfl
@[simp] theorem State.setLedger_windows (s : State) (x : Ledger) : (s.setLedger x).windows = s.windows := rfl
@[simp] theorem State.setLedger_bays (s : State) (x : Ledger) : (s.setLedger x).bays = s.bays := rfl
@[simp] theorem State.setLedger_answerOrder (s : State) (x : Ledger) : (s.setLedger x).answerOrder = s.answerOrder := rfl
@[simp] theorem State.setLedger_bus (s : State) (x : Ledger) : (s.setLedger x).bus = s.bus := rfl
@[simp] theorem State.setLedger_notice (s : State) (x : Ledger) : (s.setLedger x).notice = s.notice := rfl
@[simp] theorem State.setLedger_mgmt (s : State) (x : Ledger) : (s.setLedger x).mgmt = s.mgmt := rfl
@[simp] theorem State.setLedger_straps (s : State) (x : Ledger) : (s.setLedger x).straps = s.straps := rfl
@[simp] theorem State.setLedger_pending (s : State) (x : Ledger) : (s.setLedger x).pending = s.pending := rfl

@[simp] theorem State.setStarvation_link (s : State) (x : Nat) : (s.setStarvation x).link = s.link := rfl
@[simp] theorem State.setStarvation_ledger (s : State) (x : Nat) : (s.setStarvation x).ledger = s.ledger := rfl
@[simp] theorem State.setStarvation_starvation (s : State) (x : Nat) : (s.setStarvation x).starvation = x := rfl
@[simp] theorem State.setStarvation_windows (s : State) (x : Nat) : (s.setStarvation x).windows = s.windows := rfl
@[simp] theorem State.setStarvation_bays (s : State) (x : Nat) : (s.setStarvation x).bays = s.bays := rfl
@[simp] theorem State.setStarvation_answerOrder (s : State) (x : Nat) : (s.setStarvation x).answerOrder = s.answerOrder := rfl
@[simp] theorem State.setStarvation_bus (s : State) (x : Nat) : (s.setStarvation x).bus = s.bus := rfl
@[simp] theorem State.setStarvation_notice (s : State) (x : Nat) : (s.setStarvation x).notice = s.notice := rfl
@[simp] theorem State.setStarvation_mgmt (s : State) (x : Nat) : (s.setStarvation x).mgmt = s.mgmt := rfl
@[simp] theorem State.setStarvation_straps (s : State) (x : Nat) : (s.setStarvation x).straps = s.straps := rfl
@[simp] theorem State.setStarvation_pending (s : State) (x : Nat) : (s.setStarvation x).pending = s.pending := rfl

@[simp] theorem State.setWindows_link (s : State) (x : WindowTable) : (s.setWindows x).link = s.link := rfl
@[simp] theorem State.setWindows_ledger (s : State) (x : WindowTable) : (s.setWindows x).ledger = s.ledger := rfl
@[simp] theorem State.setWindows_starvation (s : State) (x : WindowTable) : (s.setWindows x).starvation = s.starvation := rfl
@[simp] theorem State.setWindows_windows (s : State) (x : WindowTable) : (s.setWindows x).windows = x := rfl
@[simp] theorem State.setWindows_bays (s : State) (x : WindowTable) : (s.setWindows x).bays = s.bays := rfl
@[simp] theorem State.setWindows_answerOrder (s : State) (x : WindowTable) : (s.setWindows x).answerOrder = s.answerOrder := rfl
@[simp] theorem State.setWindows_bus (s : State) (x : WindowTable) : (s.setWindows x).bus = s.bus := rfl
@[simp] theorem State.setWindows_notice (s : State) (x : WindowTable) : (s.setWindows x).notice = s.notice := rfl
@[simp] theorem State.setWindows_mgmt (s : State) (x : WindowTable) : (s.setWindows x).mgmt = s.mgmt := rfl
@[simp] theorem State.setWindows_straps (s : State) (x : WindowTable) : (s.setWindows x).straps = s.straps := rfl
@[simp] theorem State.setWindows_pending (s : State) (x : WindowTable) : (s.setWindows x).pending = s.pending := rfl

@[simp] theorem State.setBays_link (s : State) (x : PerBay Bay) : (s.setBays x).link = s.link := rfl
@[simp] theorem State.setBays_ledger (s : State) (x : PerBay Bay) : (s.setBays x).ledger = s.ledger := rfl
@[simp] theorem State.setBays_starvation (s : State) (x : PerBay Bay) : (s.setBays x).starvation = s.starvation := rfl
@[simp] theorem State.setBays_windows (s : State) (x : PerBay Bay) : (s.setBays x).windows = s.windows := rfl
@[simp] theorem State.setBays_bays (s : State) (x : PerBay Bay) : (s.setBays x).bays = x := rfl
@[simp] theorem State.setBays_answerOrder (s : State) (x : PerBay Bay) : (s.setBays x).answerOrder = s.answerOrder := rfl
@[simp] theorem State.setBays_bus (s : State) (x : PerBay Bay) : (s.setBays x).bus = s.bus := rfl
@[simp] theorem State.setBays_notice (s : State) (x : PerBay Bay) : (s.setBays x).notice = s.notice := rfl
@[simp] theorem State.setBays_mgmt (s : State) (x : PerBay Bay) : (s.setBays x).mgmt = s.mgmt := rfl
@[simp] theorem State.setBays_straps (s : State) (x : PerBay Bay) : (s.setBays x).straps = s.straps := rfl
@[simp] theorem State.setBays_pending (s : State) (x : PerBay Bay) : (s.setBays x).pending = s.pending := rfl

@[simp] theorem State.setAnswerOrder_link (s : State) (x : List OpenEntry) : (s.setAnswerOrder x).link = s.link := rfl
@[simp] theorem State.setAnswerOrder_ledger (s : State) (x : List OpenEntry) : (s.setAnswerOrder x).ledger = s.ledger := rfl
@[simp] theorem State.setAnswerOrder_starvation (s : State) (x : List OpenEntry) : (s.setAnswerOrder x).starvation = s.starvation := rfl
@[simp] theorem State.setAnswerOrder_windows (s : State) (x : List OpenEntry) : (s.setAnswerOrder x).windows = s.windows := rfl
@[simp] theorem State.setAnswerOrder_bays (s : State) (x : List OpenEntry) : (s.setAnswerOrder x).bays = s.bays := rfl
@[simp] theorem State.setAnswerOrder_answerOrder (s : State) (x : List OpenEntry) : (s.setAnswerOrder x).answerOrder = x := rfl
@[simp] theorem State.setAnswerOrder_bus (s : State) (x : List OpenEntry) : (s.setAnswerOrder x).bus = s.bus := rfl
@[simp] theorem State.setAnswerOrder_notice (s : State) (x : List OpenEntry) : (s.setAnswerOrder x).notice = s.notice := rfl
@[simp] theorem State.setAnswerOrder_mgmt (s : State) (x : List OpenEntry) : (s.setAnswerOrder x).mgmt = s.mgmt := rfl
@[simp] theorem State.setAnswerOrder_straps (s : State) (x : List OpenEntry) : (s.setAnswerOrder x).straps = s.straps := rfl
@[simp] theorem State.setAnswerOrder_pending (s : State) (x : List OpenEntry) : (s.setAnswerOrder x).pending = s.pending := rfl

@[simp] theorem State.setBus_link (s : State) (x : Bus) : (s.setBus x).link = s.link := rfl
@[simp] theorem State.setBus_ledger (s : State) (x : Bus) : (s.setBus x).ledger = s.ledger := rfl
@[simp] theorem State.setBus_starvation (s : State) (x : Bus) : (s.setBus x).starvation = s.starvation := rfl
@[simp] theorem State.setBus_windows (s : State) (x : Bus) : (s.setBus x).windows = s.windows := rfl
@[simp] theorem State.setBus_bays (s : State) (x : Bus) : (s.setBus x).bays = s.bays := rfl
@[simp] theorem State.setBus_answerOrder (s : State) (x : Bus) : (s.setBus x).answerOrder = s.answerOrder := rfl
@[simp] theorem State.setBus_bus (s : State) (x : Bus) : (s.setBus x).bus = x := rfl
@[simp] theorem State.setBus_notice (s : State) (x : Bus) : (s.setBus x).notice = s.notice := rfl
@[simp] theorem State.setBus_mgmt (s : State) (x : Bus) : (s.setBus x).mgmt = s.mgmt := rfl
@[simp] theorem State.setBus_straps (s : State) (x : Bus) : (s.setBus x).straps = s.straps := rfl
@[simp] theorem State.setBus_pending (s : State) (x : Bus) : (s.setBus x).pending = s.pending := rfl

@[simp] theorem State.setNotice_link (s : State) (x : NoticeUnit) : (s.setNotice x).link = s.link := rfl
@[simp] theorem State.setNotice_ledger (s : State) (x : NoticeUnit) : (s.setNotice x).ledger = s.ledger := rfl
@[simp] theorem State.setNotice_starvation (s : State) (x : NoticeUnit) : (s.setNotice x).starvation = s.starvation := rfl
@[simp] theorem State.setNotice_windows (s : State) (x : NoticeUnit) : (s.setNotice x).windows = s.windows := rfl
@[simp] theorem State.setNotice_bays (s : State) (x : NoticeUnit) : (s.setNotice x).bays = s.bays := rfl
@[simp] theorem State.setNotice_answerOrder (s : State) (x : NoticeUnit) : (s.setNotice x).answerOrder = s.answerOrder := rfl
@[simp] theorem State.setNotice_bus (s : State) (x : NoticeUnit) : (s.setNotice x).bus = s.bus := rfl
@[simp] theorem State.setNotice_notice (s : State) (x : NoticeUnit) : (s.setNotice x).notice = x := rfl
@[simp] theorem State.setNotice_mgmt (s : State) (x : NoticeUnit) : (s.setNotice x).mgmt = s.mgmt := rfl
@[simp] theorem State.setNotice_straps (s : State) (x : NoticeUnit) : (s.setNotice x).straps = s.straps := rfl
@[simp] theorem State.setNotice_pending (s : State) (x : NoticeUnit) : (s.setNotice x).pending = s.pending := rfl

@[simp] theorem State.setMgmt_link (s : State) (x : Mgmt) : (s.setMgmt x).link = s.link := rfl
@[simp] theorem State.setMgmt_ledger (s : State) (x : Mgmt) : (s.setMgmt x).ledger = s.ledger := rfl
@[simp] theorem State.setMgmt_starvation (s : State) (x : Mgmt) : (s.setMgmt x).starvation = s.starvation := rfl
@[simp] theorem State.setMgmt_windows (s : State) (x : Mgmt) : (s.setMgmt x).windows = s.windows := rfl
@[simp] theorem State.setMgmt_bays (s : State) (x : Mgmt) : (s.setMgmt x).bays = s.bays := rfl
@[simp] theorem State.setMgmt_answerOrder (s : State) (x : Mgmt) : (s.setMgmt x).answerOrder = s.answerOrder := rfl
@[simp] theorem State.setMgmt_bus (s : State) (x : Mgmt) : (s.setMgmt x).bus = s.bus := rfl
@[simp] theorem State.setMgmt_notice (s : State) (x : Mgmt) : (s.setMgmt x).notice = s.notice := rfl
@[simp] theorem State.setMgmt_mgmt (s : State) (x : Mgmt) : (s.setMgmt x).mgmt = x := rfl
@[simp] theorem State.setMgmt_straps (s : State) (x : Mgmt) : (s.setMgmt x).straps = s.straps := rfl
@[simp] theorem State.setMgmt_pending (s : State) (x : Mgmt) : (s.setMgmt x).pending = s.pending := rfl

@[simp] theorem State.setPending_link (s : State) (x : List Instr) : (s.setPending x).link = s.link := rfl
@[simp] theorem State.setPending_ledger (s : State) (x : List Instr) : (s.setPending x).ledger = s.ledger := rfl
@[simp] theorem State.setPending_starvation (s : State) (x : List Instr) : (s.setPending x).starvation = s.starvation := rfl
@[simp] theorem State.setPending_windows (s : State) (x : List Instr) : (s.setPending x).windows = s.windows := rfl
@[simp] theorem State.setPending_bays (s : State) (x : List Instr) : (s.setPending x).bays = s.bays := rfl
@[simp] theorem State.setPending_answerOrder (s : State) (x : List Instr) : (s.setPending x).answerOrder = s.answerOrder := rfl
@[simp] theorem State.setPending_bus (s : State) (x : List Instr) : (s.setPending x).bus = s.bus := rfl
@[simp] theorem State.setPending_notice (s : State) (x : List Instr) : (s.setPending x).notice = s.notice := rfl
@[simp] theorem State.setPending_mgmt (s : State) (x : List Instr) : (s.setPending x).mgmt = s.mgmt := rfl
@[simp] theorem State.setPending_straps (s : State) (x : List Instr) : (s.setPending x).straps = s.straps := rfl
@[simp] theorem State.setPending_pending (s : State) (x : List Instr) : (s.setPending x).pending = x := rfl

/-! ## One of six -/

@[simp] theorem PerBay.get_set {α : Type} (p : PerBay α) (b c : BayId) (x : α) :
    (p.set b x).get c = if b = c then x else p.get c := by
  cases b <;> cases c <;> rfl

@[simp] theorem PerBay.get_map {α β : Type} (f : α → β) (p : PerBay α) (b : BayId) : (p.map f).get b = f (p.get b) := by
  cases b <;> rfl

@[simp] theorem PerBay.get_mapWithId {α β : Type} (f : BayId → α → β) (p : PerBay α) (b : BayId) :
    (p.mapWithId f).get b = f b (p.get b) := by
  cases b <;> rfl

theorem PerBay.ext_get {α : Type} {p q : PerBay α} (h : ∀ b, p.get b = q.get b) : p = q := by
  cases p
  cases q
  have h0 := h .b0
  have h1 := h .b1
  have h2 := h .b2
  have h3 := h .b3
  have h4 := h .b4
  have h5 := h .b5
  simp_all [PerBay.get]

/-! ## One bay -/

@[simp] theorem State.setBay_bay (s : State) (b c : BayId) (x : Bay) :
    (s.setBay b x).bay c = if b = c then x else s.bay c := by
  simp [State.setBay, State.bay]

@[simp] theorem State.setLink_bay (s : State) (x : LinkUnit) (b : BayId) : (s.setLink x).bay b = s.bay b := rfl
@[simp] theorem State.setLedger_bay (s : State) (x : Ledger) (b : BayId) : (s.setLedger x).bay b = s.bay b := rfl
@[simp] theorem State.setStarvation_bay (s : State) (x : Nat) (b : BayId) : (s.setStarvation x).bay b = s.bay b := rfl
@[simp] theorem State.setWindows_bay (s : State) (x : WindowTable) (b : BayId) : (s.setWindows x).bay b = s.bay b := rfl
@[simp] theorem State.setAnswerOrder_bay (s : State) (x : List OpenEntry) (b : BayId) : (s.setAnswerOrder x).bay b = s.bay b := rfl
@[simp] theorem State.setBus_bay (s : State) (x : Bus) (b : BayId) : (s.setBus x).bay b = s.bay b := rfl
@[simp] theorem State.setNotice_bay (s : State) (x : NoticeUnit) (b : BayId) : (s.setNotice x).bay b = s.bay b := rfl
@[simp] theorem State.setMgmt_bay (s : State) (x : Mgmt) (b : BayId) : (s.setMgmt x).bay b = s.bay b := rfl
@[simp] theorem State.setPending_bay (s : State) (x : List Instr) (b : BayId) : (s.setPending x).bay b = s.bay b := rfl

@[simp] theorem State.setBay_link (s : State) (b : BayId) (x : Bay) : (s.setBay b x).link = s.link := rfl
@[simp] theorem State.setBay_ledger (s : State) (b : BayId) (x : Bay) : (s.setBay b x).ledger = s.ledger := rfl
@[simp] theorem State.setBay_starvation (s : State) (b : BayId) (x : Bay) : (s.setBay b x).starvation = s.starvation := rfl
@[simp] theorem State.setBay_windows (s : State) (b : BayId) (x : Bay) : (s.setBay b x).windows = s.windows := rfl
@[simp] theorem State.setBay_answerOrder (s : State) (b : BayId) (x : Bay) : (s.setBay b x).answerOrder = s.answerOrder := rfl
@[simp] theorem State.setBay_bus (s : State) (b : BayId) (x : Bay) : (s.setBay b x).bus = s.bus := rfl
@[simp] theorem State.setBay_notice (s : State) (b : BayId) (x : Bay) : (s.setBay b x).notice = s.notice := rfl
@[simp] theorem State.setBay_mgmt (s : State) (b : BayId) (x : Bay) : (s.setBay b x).mgmt = s.mgmt := rfl
@[simp] theorem State.setBay_straps (s : State) (b : BayId) (x : Bay) : (s.setBay b x).straps = s.straps := rfl
@[simp] theorem State.setBay_pending (s : State) (b : BayId) (x : Bay) : (s.setBay b x).pending = s.pending := rfl

@[simp] theorem State.updLife_link (s : State) (b : BayId) (f : Lifecycle → Lifecycle) : (s.updLife b f).link = s.link := rfl
@[simp] theorem State.updLife_ledger (s : State) (b : BayId) (f : Lifecycle → Lifecycle) : (s.updLife b f).ledger = s.ledger := rfl
@[simp] theorem State.updLife_starvation (s : State) (b : BayId) (f : Lifecycle → Lifecycle) : (s.updLife b f).starvation = s.starvation := rfl
@[simp] theorem State.updLife_windows (s : State) (b : BayId) (f : Lifecycle → Lifecycle) : (s.updLife b f).windows = s.windows := rfl
@[simp] theorem State.updLife_answerOrder (s : State) (b : BayId) (f : Lifecycle → Lifecycle) : (s.updLife b f).answerOrder = s.answerOrder := rfl
@[simp] theorem State.updLife_bus (s : State) (b : BayId) (f : Lifecycle → Lifecycle) : (s.updLife b f).bus = s.bus := rfl
@[simp] theorem State.updLife_notice (s : State) (b : BayId) (f : Lifecycle → Lifecycle) : (s.updLife b f).notice = s.notice := rfl
@[simp] theorem State.updLife_mgmt (s : State) (b : BayId) (f : Lifecycle → Lifecycle) : (s.updLife b f).mgmt = s.mgmt := rfl
@[simp] theorem State.updLife_straps (s : State) (b : BayId) (f : Lifecycle → Lifecycle) : (s.updLife b f).straps = s.straps := rfl
@[simp] theorem State.updLife_pending (s : State) (b : BayId) (f : Lifecycle → Lifecycle) : (s.updLife b f).pending = s.pending := rfl

@[simp] theorem State.updEngine_link (s : State) (b : BayId) (f : Engine → Engine) : (s.updEngine b f).link = s.link := rfl
@[simp] theorem State.updEngine_ledger (s : State) (b : BayId) (f : Engine → Engine) : (s.updEngine b f).ledger = s.ledger := rfl
@[simp] theorem State.updEngine_starvation (s : State) (b : BayId) (f : Engine → Engine) : (s.updEngine b f).starvation = s.starvation := rfl
@[simp] theorem State.updEngine_windows (s : State) (b : BayId) (f : Engine → Engine) : (s.updEngine b f).windows = s.windows := rfl
@[simp] theorem State.updEngine_answerOrder (s : State) (b : BayId) (f : Engine → Engine) : (s.updEngine b f).answerOrder = s.answerOrder := rfl
@[simp] theorem State.updEngine_bus (s : State) (b : BayId) (f : Engine → Engine) : (s.updEngine b f).bus = s.bus := rfl
@[simp] theorem State.updEngine_notice (s : State) (b : BayId) (f : Engine → Engine) : (s.updEngine b f).notice = s.notice := rfl
@[simp] theorem State.updEngine_mgmt (s : State) (b : BayId) (f : Engine → Engine) : (s.updEngine b f).mgmt = s.mgmt := rfl
@[simp] theorem State.updEngine_straps (s : State) (b : BayId) (f : Engine → Engine) : (s.updEngine b f).straps = s.straps := rfl
@[simp] theorem State.updEngine_pending (s : State) (b : BayId) (f : Engine → Engine) : (s.updEngine b f).pending = s.pending := rfl

@[simp] theorem State.setList_link (s : State) (b : BayId) (l : List Entry) : (s.setList b l).link = s.link := rfl
@[simp] theorem State.setList_ledger (s : State) (b : BayId) (l : List Entry) : (s.setList b l).ledger = s.ledger := rfl
@[simp] theorem State.setList_starvation (s : State) (b : BayId) (l : List Entry) : (s.setList b l).starvation = s.starvation := rfl
@[simp] theorem State.setList_windows (s : State) (b : BayId) (l : List Entry) : (s.setList b l).windows = s.windows := rfl
@[simp] theorem State.setList_answerOrder (s : State) (b : BayId) (l : List Entry) : (s.setList b l).answerOrder = s.answerOrder := rfl
@[simp] theorem State.setList_bus (s : State) (b : BayId) (l : List Entry) : (s.setList b l).bus = s.bus := rfl
@[simp] theorem State.setList_notice (s : State) (b : BayId) (l : List Entry) : (s.setList b l).notice = s.notice := rfl
@[simp] theorem State.setList_mgmt (s : State) (b : BayId) (l : List Entry) : (s.setList b l).mgmt = s.mgmt := rfl
@[simp] theorem State.setList_straps (s : State) (b : BayId) (l : List Entry) : (s.setList b l).straps = s.straps := rfl
@[simp] theorem State.setList_pending (s : State) (b : BayId) (l : List Entry) : (s.setList b l).pending = s.pending := rfl

@[simp] theorem State.updLife_bay (s : State) (b c : BayId) (f : Lifecycle → Lifecycle) :
    (s.updLife b f).bay c = if b = c then { s.bay b with life := f (s.bay b).life } else s.bay c := by
  simp [State.updLife]

@[simp] theorem State.updEngine_bay (s : State) (b c : BayId) (f : Engine → Engine) :
    (s.updEngine b f).bay c = if b = c then { s.bay b with engine := f (s.bay b).engine } else s.bay c := by
  simp [State.updEngine]

@[simp] theorem State.setList_bay (s : State) (b c : BayId) (l : List Entry) :
    (s.setList b l).bay c = if b = c then { s.bay b with list := l } else s.bay c := by
  simp [State.setList]

/-! ## Two updates of one part, and equal states -/

@[simp] theorem State.setLink_setLink (s : State) (x y : LinkUnit) : (s.setLink x).setLink y = s.setLink y := rfl
@[simp] theorem State.setLedger_setLedger (s : State) (x y : Ledger) : (s.setLedger x).setLedger y = s.setLedger y := rfl
@[simp] theorem State.setStarvation_setStarvation (s : State) (x y : Nat) : (s.setStarvation x).setStarvation y = s.setStarvation y := rfl
@[simp] theorem State.setWindows_setWindows (s : State) (x y : WindowTable) : (s.setWindows x).setWindows y = s.setWindows y := rfl
@[simp] theorem State.setBays_setBays (s : State) (x y : PerBay Bay) : (s.setBays x).setBays y = s.setBays y := rfl
@[simp] theorem State.setAnswerOrder_setAnswerOrder (s : State) (x y : List OpenEntry) : (s.setAnswerOrder x).setAnswerOrder y = s.setAnswerOrder y := rfl
@[simp] theorem State.setBus_setBus (s : State) (x y : Bus) : (s.setBus x).setBus y = s.setBus y := rfl
@[simp] theorem State.setNotice_setNotice (s : State) (x y : NoticeUnit) : (s.setNotice x).setNotice y = s.setNotice y := rfl
@[simp] theorem State.setMgmt_setMgmt (s : State) (x y : Mgmt) : (s.setMgmt x).setMgmt y = s.setMgmt y := rfl
@[simp] theorem State.setPending_setPending (s : State) (x y : List Instr) : (s.setPending x).setPending y = s.setPending y := rfl

/-- Two states with equal parts are equal. -/
theorem State.ext_bay {s t : State} (link : s.link = t.link) (ledger : s.ledger = t.ledger)
    (starvation : s.starvation = t.starvation) (windows : s.windows = t.windows) (bay : ∀ b, s.bay b = t.bay b)
    (answerOrder : s.answerOrder = t.answerOrder) (bus : s.bus = t.bus) (notice : s.notice = t.notice)
    (mgmt : s.mgmt = t.mgmt) (straps : s.straps = t.straps) (pending : s.pending = t.pending) : s = t := by
  have bays : s.bays = t.bays := PerBay.ext_get bay
  cases s
  cases t
  simp_all

@[simp] theorem State.setBay_setBay (s : State) (b : BayId) (x y : Bay) : (s.setBay b x).setBay b y = s.setBay b y := by
  cases b <;> rfl

theorem State.setBay_self {s : State} {b : BayId} {x : Bay} (h : x = s.bay b) : s.setBay b x = s := by
  subst h
  cases b <;> rfl

/-- A state that differs from another in one bay alone is that other with the bay replaced. -/
theorem State.eq_setBay {s t : State} {b : BayId} {x : Bay} (link : t.link = s.link) (ledger : t.ledger = s.ledger)
    (starvation : t.starvation = s.starvation) (windows : t.windows = s.windows)
    (bay : ∀ c, t.bay c = if b = c then x else s.bay c) (answerOrder : t.answerOrder = s.answerOrder)
    (bus : t.bus = s.bus) (notice : t.notice = s.notice) (mgmt : t.mgmt = s.mgmt) (straps : t.straps = s.straps)
    (pending : t.pending = s.pending) : t = s.setBay b x := by
  apply State.ext_bay <;> simp_all

end Sys2Proof.Machine
end

