-- ==== Sys2Proof/Laws/Frames.lean ====
section
/-! SUPPORT. What each shared operation leaves unchanged: one lemma per operation, naming every part of the state that it
cannot change. -/

namespace Sys2Proof.Machine

@[simp] theorem State.raise_frame (s : State) (e : EventId) (r : Option Reason) :
    (s.raise e r).link = s.link ∧ (s.raise e r).ledger = s.ledger ∧
    (s.raise e r).starvation = s.starvation ∧ (s.raise e r).windows = s.windows ∧
    (s.raise e r).bays = s.bays ∧ (s.raise e r).answerOrder = s.answerOrder ∧
    (s.raise e r).bus = s.bus ∧ (s.raise e r).mgmt = s.mgmt ∧
    (s.raise e r).straps = s.straps ∧ (s.raise e r).pending = s.pending := by
  unfold State.raise
  simp

@[simp] theorem State.raise_bay (s : State) (e : EventId) (r : Option Reason) (c : BayId) : (s.raise e r).bay c = s.bay c := by
  simp [State.bay]

@[simp] theorem State.freed_frame (s : State) (p : Pool) :
    (s.freed p).link = s.link ∧ (s.freed p).starvation = s.starvation ∧
    (s.freed p).windows = s.windows ∧ (s.freed p).bays = s.bays ∧
    (s.freed p).answerOrder = s.answerOrder ∧ (s.freed p).bus = s.bus ∧
    (s.freed p).notice = s.notice ∧ (s.freed p).mgmt = s.mgmt ∧
    (s.freed p).straps = s.straps ∧ (s.freed p).pending = s.pending := by
  unfold State.freed
  (repeat' split) <;> simp

@[simp] theorem State.freed_bay (s : State) (p : Pool) (c : BayId) : (s.freed p).bay c = s.bay c := by
  simp [State.bay]

@[simp] theorem State.place_frame (s : State) (p : UpPacket) :
    (s.place p).ledger = s.ledger ∧ (s.place p).starvation = s.starvation ∧
    (s.place p).windows = s.windows ∧ (s.place p).bays = s.bays ∧
    (s.place p).answerOrder = s.answerOrder ∧ (s.place p).bus = s.bus ∧
    (s.place p).notice = s.notice ∧ (s.place p).mgmt = s.mgmt ∧
    (s.place p).straps = s.straps ∧ (s.place p).pending = s.pending := by
  unfold State.place
  simp

@[simp] theorem State.place_bay (s : State) (p : UpPacket) (c : BayId) : (s.place p).bay c = s.bay c := by
  simp [State.bay]

@[simp] theorem State.dropStore_frame (s : State) (b : BayId) (st : AnswerStatus) :
    (s.dropStore b st).link = s.link ∧ (s.dropStore b st).ledger = s.ledger ∧
    (s.dropStore b st).starvation = s.starvation ∧ (s.dropStore b st).windows = s.windows ∧
    (s.dropStore b st).bays = s.bays ∧ (s.dropStore b st).answerOrder = s.answerOrder ∧
    (s.dropStore b st).bus = s.bus ∧ (s.dropStore b st).mgmt = s.mgmt ∧
    (s.dropStore b st).straps = s.straps ∧ (s.dropStore b st).pending = s.pending := by
  unfold State.dropStore
  simp

@[simp] theorem State.dropStore_bay (s : State) (b : BayId) (st : AnswerStatus) (c : BayId) : (s.dropStore b st).bay c = s.bay c := by
  simp [State.bay]

@[simp] theorem State.joinAnswers_frame (s : State) (e : OpenEntry) :
    (s.joinAnswers e).link = s.link ∧ (s.joinAnswers e).ledger = s.ledger ∧
    (s.joinAnswers e).starvation = s.starvation ∧ (s.joinAnswers e).windows = s.windows ∧
    (s.joinAnswers e).bays = s.bays ∧ (s.joinAnswers e).bus = s.bus ∧
    (s.joinAnswers e).notice = s.notice ∧ (s.joinAnswers e).mgmt = s.mgmt ∧
    (s.joinAnswers e).straps = s.straps ∧ (s.joinAnswers e).pending = s.pending := by
  unfold State.joinAnswers
  simp

@[simp] theorem State.joinAnswers_bay (s : State) (e : OpenEntry) (c : BayId) : (s.joinAnswers e).bay c = s.bay c := by
  simp [State.bay]

@[simp] theorem State.settleEntry_frame (s : State) (b : BayId) (st : AnswerStatus) (e : Entry) :
    (s.settleEntry b st e).link = s.link ∧ (s.settleEntry b st e).starvation = s.starvation ∧
    (s.settleEntry b st e).windows = s.windows ∧ (s.settleEntry b st e).bays = s.bays ∧
    (s.settleEntry b st e).bus = s.bus ∧ (s.settleEntry b st e).mgmt = s.mgmt ∧
    (s.settleEntry b st e).straps = s.straps ∧ (s.settleEntry b st e).pending = s.pending := by
  unfold State.settleEntry
  (repeat' split) <;> simp

@[simp] theorem State.settleEntry_bay (s : State) (b : BayId) (st : AnswerStatus) (e : Entry) (c : BayId) : (s.settleEntry b st e).bay c = s.bay c := by
  simp [State.bay]

@[simp] theorem State.settleEntries_frame (s : State) (b : BayId) (st : AnswerStatus) (l : List Entry) :
    (s.settleEntries b st l).link = s.link ∧ (s.settleEntries b st l).starvation = s.starvation ∧
    (s.settleEntries b st l).windows = s.windows ∧ (s.settleEntries b st l).bays = s.bays ∧
    (s.settleEntries b st l).bus = s.bus ∧ (s.settleEntries b st l).mgmt = s.mgmt ∧
    (s.settleEntries b st l).straps = s.straps ∧ (s.settleEntries b st l).pending = s.pending := by
  induction l generalizing s with
  | nil => simp [State.settleEntries]
  | cons e rest ih =>
    have h := ih (s.settleEntry b st e)
    simp only [State.settleEntries, List.foldl_cons] at h ⊢
    simpa using h

@[simp] theorem State.settleEntries_bay (s : State) (b : BayId) (st : AnswerStatus) (l : List Entry) (c : BayId) : (s.settleEntries b st l).bay c = s.bay c := by
  simp [State.bay]

@[simp] theorem State.endHead_frame (s : State) (b : BayId) (st : AnswerStatus) :
    (s.endHead b st).link = s.link ∧ (s.endHead b st).starvation = s.starvation ∧
    (s.endHead b st).windows = s.windows ∧ (s.endHead b st).bus = s.bus ∧
    (s.endHead b st).mgmt = s.mgmt ∧ (s.endHead b st).straps = s.straps ∧
    (s.endHead b st).pending = s.pending := by
  unfold State.endHead
  (repeat' split) <;> simp

@[simp] theorem State.purge_frame (s : State) (b : BayId) (st : AnswerStatus) :
    (s.purge b st).link = s.link ∧ (s.purge b st).starvation = s.starvation ∧
    (s.purge b st).windows = s.windows ∧ (s.purge b st).bus = s.bus ∧
    (s.purge b st).mgmt = s.mgmt ∧ (s.purge b st).straps = s.straps ∧
    (s.purge b st).pending = s.pending := by
  unfold State.purge
  simp

@[simp] theorem State.purgeBehindHead_frame (s : State) (b : BayId) (st : AnswerStatus) :
    (s.purgeBehindHead b st).link = s.link ∧ (s.purgeBehindHead b st).starvation = s.starvation ∧
    (s.purgeBehindHead b st).windows = s.windows ∧ (s.purgeBehindHead b st).bus = s.bus ∧
    (s.purgeBehindHead b st).mgmt = s.mgmt ∧ (s.purgeBehindHead b st).straps = s.straps ∧
    (s.purgeBehindHead b st).pending = s.pending := by
  unfold State.purgeBehindHead
  (repeat' split) <;> simp

@[simp] theorem State.linkLossAtPools_frame (s : State) :
    (s.linkLossAtPools).link = s.link ∧ (s.linkLossAtPools).ledger = s.ledger ∧
    (s.linkLossAtPools).starvation = s.starvation ∧ (s.linkLossAtPools).windows = s.windows ∧
    (s.linkLossAtPools).bus = s.bus ∧ (s.linkLossAtPools).notice = s.notice ∧
    (s.linkLossAtPools).mgmt = s.mgmt ∧ (s.linkLossAtPools).straps = s.straps ∧
    (s.linkLossAtPools).pending = s.pending := by
  unfold State.linkLossAtPools
  simp

@[simp] theorem State.releaseBus_frame (s : State) (b : BayId) :
    (s.releaseBus b).link = s.link ∧ (s.releaseBus b).ledger = s.ledger ∧
    (s.releaseBus b).starvation = s.starvation ∧ (s.releaseBus b).windows = s.windows ∧
    (s.releaseBus b).bays = s.bays ∧ (s.releaseBus b).answerOrder = s.answerOrder ∧
    (s.releaseBus b).notice = s.notice ∧ (s.releaseBus b).mgmt = s.mgmt ∧
    (s.releaseBus b).straps = s.straps ∧ (s.releaseBus b).pending = s.pending := by
  unfold State.releaseBus
  (repeat' split) <;> simp

@[simp] theorem State.releaseBus_bay (s : State) (b : BayId) (c : BayId) : (s.releaseBus b).bay c = s.bay c := by
  simp [State.bay]

@[simp] theorem State.stopEngine_frame (s : State) (b : BayId) :
    (s.stopEngine b).link = s.link ∧ (s.stopEngine b).ledger = s.ledger ∧
    (s.stopEngine b).starvation = s.starvation ∧ (s.stopEngine b).windows = s.windows ∧
    (s.stopEngine b).answerOrder = s.answerOrder ∧ (s.stopEngine b).notice = s.notice ∧
    (s.stopEngine b).mgmt = s.mgmt ∧ (s.stopEngine b).straps = s.straps ∧
    (s.stopEngine b).pending = s.pending := by
  unfold State.stopEngine
  simp

@[simp] theorem State.startRequest_frame (s : State) (b : BayId) :
    (s.startRequest b).link = s.link ∧ (s.startRequest b).ledger = s.ledger ∧
    (s.startRequest b).starvation = s.starvation ∧ (s.startRequest b).windows = s.windows ∧
    (s.startRequest b).answerOrder = s.answerOrder ∧ (s.startRequest b).bus = s.bus ∧
    (s.startRequest b).notice = s.notice ∧ (s.startRequest b).mgmt = s.mgmt ∧
    (s.startRequest b).straps = s.straps ∧ (s.startRequest b).pending = s.pending := by
  unfold State.startRequest
  (repeat' split) <;> simp

@[simp] theorem State.startProfileRead_frame (s : State) (b : BayId) :
    (s.startProfileRead b).link = s.link ∧ (s.startProfileRead b).ledger = s.ledger ∧
    (s.startProfileRead b).starvation = s.starvation ∧ (s.startProfileRead b).windows = s.windows ∧
    (s.startProfileRead b).answerOrder = s.answerOrder ∧ (s.startProfileRead b).bus = s.bus ∧
    (s.startProfileRead b).notice = s.notice ∧ (s.startProfileRead b).mgmt = s.mgmt ∧
    (s.startProfileRead b).straps = s.straps ∧ (s.startProfileRead b).pending = s.pending := by
  unfold State.startProfileRead
  simp

@[simp] theorem State.grantBus_frame (s : State) (b : BayId) :
    (s.grantBus b).link = s.link ∧ (s.grantBus b).ledger = s.ledger ∧
    (s.grantBus b).starvation = s.starvation ∧ (s.grantBus b).windows = s.windows ∧
    (s.grantBus b).answerOrder = s.answerOrder ∧ (s.grantBus b).notice = s.notice ∧
    (s.grantBus b).mgmt = s.mgmt ∧ (s.grantBus b).straps = s.straps ∧
    (s.grantBus b).pending = s.pending := by
  unfold State.grantBus
  (repeat' split) <;> simp

@[simp] theorem State.enterReady_frame (s : State) (b : BayId) (p : ProfileSummary) :
    (s.enterReady b p).link = s.link ∧ (s.enterReady b p).ledger = s.ledger ∧
    (s.enterReady b p).starvation = s.starvation ∧ (s.enterReady b p).windows = s.windows ∧
    (s.enterReady b p).answerOrder = s.answerOrder ∧ (s.enterReady b p).bus = s.bus ∧
    (s.enterReady b p).mgmt = s.mgmt ∧ (s.enterReady b p).straps = s.straps ∧
    (s.enterReady b p).pending = s.pending := by
  unfold State.enterReady
  simp

@[simp] theorem State.enterFaulted_frame (s : State) (b : BayId) (r : FaultReason) :
    (s.enterFaulted b r).link = s.link ∧ (s.enterFaulted b r).starvation = s.starvation ∧
    (s.enterFaulted b r).windows = s.windows ∧ (s.enterFaulted b r).mgmt = s.mgmt ∧
    (s.enterFaulted b r).straps = s.straps ∧ (s.enterFaulted b r).pending = s.pending := by
  unfold State.enterFaulted
  simp

@[simp] theorem State.removalWindowClear_frame (s : State) (b : BayId) :
    (s.removalWindowClear b).link = s.link ∧ (s.removalWindowClear b).ledger = s.ledger ∧
    (s.removalWindowClear b).starvation = s.starvation ∧ (s.removalWindowClear b).bays = s.bays ∧
    (s.removalWindowClear b).answerOrder = s.answerOrder ∧ (s.removalWindowClear b).bus = s.bus ∧
    (s.removalWindowClear b).notice = s.notice ∧ (s.removalWindowClear b).mgmt = s.mgmt ∧
    (s.removalWindowClear b).straps = s.straps ∧ (s.removalWindowClear b).pending = s.pending := by
  unfold State.removalWindowClear
  (repeat' split) <;> simp

@[simp] theorem State.removalWindowClear_bay (s : State) (b : BayId) (c : BayId) : (s.removalWindowClear b).bay c = s.bay c := by
  simp [State.bay]

@[simp] theorem State.removeModule_frame (s : State) (b : BayId) :
    (s.removeModule b).link = s.link ∧ (s.removeModule b).starvation = s.starvation ∧
    (s.removeModule b).mgmt = s.mgmt ∧ (s.removeModule b).straps = s.straps ∧
    (s.removeModule b).pending = s.pending := by
  unfold State.removeModule
  simp

@[simp] theorem State.setPgood_frame (s : State) (b : BayId) (level : Bool) :
    (s.setPgood b level).link = s.link ∧ (s.setPgood b level).ledger = s.ledger ∧
    (s.setPgood b level).starvation = s.starvation ∧ (s.setPgood b level).windows = s.windows ∧
    (s.setPgood b level).answerOrder = s.answerOrder ∧ (s.setPgood b level).bus = s.bus ∧
    (s.setPgood b level).notice = s.notice ∧ (s.setPgood b level).mgmt = s.mgmt ∧
    (s.setPgood b level).straps = s.straps ∧ (s.setPgood b level).pending = s.pending := by
  unfold State.setPgood
  simp

@[simp] theorem State.takeRemoval_frame (s : State) (b : BayId) :
    (s.takeRemoval b).link = s.link ∧ (s.takeRemoval b).starvation = s.starvation ∧
    (s.takeRemoval b).mgmt = s.mgmt ∧ (s.takeRemoval b).straps = s.straps ∧
    (s.takeRemoval b).pending = s.pending := by
  unfold State.takeRemoval
  (repeat' split) <;> simp

@[simp] theorem State.takePgoodLoss_frame (s : State) (b : BayId) :
    (s.takePgoodLoss b).link = s.link ∧ (s.takePgoodLoss b).starvation = s.starvation ∧
    (s.takePgoodLoss b).windows = s.windows ∧ (s.takePgoodLoss b).mgmt = s.mgmt ∧
    (s.takePgoodLoss b).straps = s.straps ∧ (s.takePgoodLoss b).pending = s.pending := by
  unfold State.takePgoodLoss
  (repeat' split) <;> simp

@[simp] theorem State.completeQuiesce_frame (s : State) (b : BayId) :
    (s.completeQuiesce b).link = s.link ∧ (s.completeQuiesce b).ledger = s.ledger ∧
    (s.completeQuiesce b).starvation = s.starvation ∧ (s.completeQuiesce b).windows = s.windows ∧
    (s.completeQuiesce b).answerOrder = s.answerOrder ∧ (s.completeQuiesce b).bus = s.bus ∧
    (s.completeQuiesce b).mgmt = s.mgmt ∧ (s.completeQuiesce b).straps = s.straps ∧
    (s.completeQuiesce b).pending = s.pending := by
  unfold State.completeQuiesce
  simp

@[simp] theorem State.takeQuiesceCompletion_frame (s : State) (b : BayId) :
    (s.takeQuiesceCompletion b).link = s.link ∧ (s.takeQuiesceCompletion b).ledger = s.ledger ∧
    (s.takeQuiesceCompletion b).starvation = s.starvation ∧ (s.takeQuiesceCompletion b).windows = s.windows ∧
    (s.takeQuiesceCompletion b).answerOrder = s.answerOrder ∧ (s.takeQuiesceCompletion b).bus = s.bus ∧
    (s.takeQuiesceCompletion b).mgmt = s.mgmt ∧ (s.takeQuiesceCompletion b).straps = s.straps ∧
    (s.takeQuiesceCompletion b).pending = s.pending := by
  unfold State.takeQuiesceCompletion
  (repeat' split) <;> simp

@[simp] theorem State.completeIfEmpty_frame (s : State) (b : BayId) :
    (s.completeIfEmpty b).link = s.link ∧ (s.completeIfEmpty b).ledger = s.ledger ∧
    (s.completeIfEmpty b).starvation = s.starvation ∧ (s.completeIfEmpty b).windows = s.windows ∧
    (s.completeIfEmpty b).answerOrder = s.answerOrder ∧ (s.completeIfEmpty b).bus = s.bus ∧
    (s.completeIfEmpty b).mgmt = s.mgmt ∧ (s.completeIfEmpty b).straps = s.straps ∧
    (s.completeIfEmpty b).pending = s.pending := by
  unfold State.completeIfEmpty
  (repeat' split) <;> simp

@[simp] theorem State.quiesceAtOnce_frame (s : State) (b : BayId) :
    (s.quiesceAtOnce b).link = s.link ∧ (s.quiesceAtOnce b).ledger = s.ledger ∧
    (s.quiesceAtOnce b).starvation = s.starvation ∧ (s.quiesceAtOnce b).windows = s.windows ∧
    (s.quiesceAtOnce b).answerOrder = s.answerOrder ∧ (s.quiesceAtOnce b).mgmt = s.mgmt ∧
    (s.quiesceAtOnce b).straps = s.straps ∧ (s.quiesceAtOnce b).pending = s.pending := by
  unfold State.quiesceAtOnce
  simp

@[simp] theorem State.abandon_frame (s : State) (b : BayId) :
    (s.abandon b).link = s.link ∧ (s.abandon b).starvation = s.starvation ∧
    (s.abandon b).windows = s.windows ∧ (s.abandon b).mgmt = s.mgmt ∧
    (s.abandon b).straps = s.straps ∧ (s.abandon b).pending = s.pending := by
  unfold State.abandon
  (repeat' split) <;> simp

@[simp] theorem State.enterQuiescing_frame (s : State) (b : BayId) (m : QuiesceMode) :
    (s.enterQuiescing b m).link = s.link ∧ (s.enterQuiescing b m).starvation = s.starvation ∧
    (s.enterQuiescing b m).windows = s.windows ∧ (s.enterQuiescing b m).mgmt = s.mgmt ∧
    (s.enterQuiescing b m).straps = s.straps ∧ (s.enterQuiescing b m).pending = s.pending := by
  unfold State.enterQuiescing
  (repeat' split) <;> simp

@[simp] theorem State.convertDrain_frame (s : State) (b : BayId) :
    (s.convertDrain b).link = s.link ∧ (s.convertDrain b).starvation = s.starvation ∧
    (s.convertDrain b).windows = s.windows ∧ (s.convertDrain b).mgmt = s.mgmt ∧
    (s.convertDrain b).straps = s.straps ∧ (s.convertDrain b).pending = s.pending := by
  unfold State.convertDrain
  simp

@[simp] theorem State.finishRequest_frame (s : State) (b : BayId) (st : AnswerStatus) :
    (s.finishRequest b st).link = s.link ∧ (s.finishRequest b st).starvation = s.starvation ∧
    (s.finishRequest b st).windows = s.windows ∧ (s.finishRequest b st).bus = s.bus ∧
    (s.finishRequest b st).mgmt = s.mgmt ∧ (s.finishRequest b st).straps = s.straps ∧
    (s.finishRequest b st).pending = s.pending := by
  unfold State.finishRequest
  simp

@[simp] theorem State.endRequest_frame (s : State) (b : BayId) (st : AnswerStatus) :
    (s.endRequest b st).link = s.link ∧ (s.endRequest b st).starvation = s.starvation ∧
    (s.endRequest b st).windows = s.windows ∧ (s.endRequest b st).bus = s.bus ∧
    (s.endRequest b st).mgmt = s.mgmt ∧ (s.endRequest b st).straps = s.straps ∧
    (s.endRequest b st).pending = s.pending := by
  unfold State.endRequest
  simp

@[simp] theorem State.profileOutcome_frame (s : State) (b : BayId) (o : Option (List Byte)) :
    (s.profileOutcome b o).link = s.link ∧ (s.profileOutcome b o).starvation = s.starvation ∧
    (s.profileOutcome b o).windows = s.windows ∧ (s.profileOutcome b o).mgmt = s.mgmt ∧
    (s.profileOutcome b o).straps = s.straps ∧ (s.profileOutcome b o).pending = s.pending := by
  unfold State.profileOutcome
  dsimp only
  (repeat' split) <;> simp

@[simp] theorem State.profileByte_frame (s : State) (b : BayId) (x : Byte) :
    (s.profileByte b x).link = s.link ∧ (s.profileByte b x).starvation = s.starvation ∧
    (s.profileByte b x).windows = s.windows ∧ (s.profileByte b x).mgmt = s.mgmt ∧
    (s.profileByte b x).straps = s.straps ∧ (s.profileByte b x).pending = s.pending := by
  unfold State.profileByte
  dsimp only
  (repeat' split) <;> simp

@[simp] theorem State.requestCycleDone_frame (s : State) (b : BayId) (c : Cycle) (lanes : BitVec 16) :
    (s.requestCycleDone b c lanes).link = s.link ∧ (s.requestCycleDone b c lanes).starvation = s.starvation ∧
    (s.requestCycleDone b c lanes).windows = s.windows ∧ (s.requestCycleDone b c lanes).mgmt = s.mgmt ∧
    (s.requestCycleDone b c lanes).straps = s.straps ∧ (s.requestCycleDone b c lanes).pending = s.pending := by
  unfold State.requestCycleDone
  dsimp only
  (repeat' split) <;> simp

@[simp] theorem State.endCycle_frame (s : State) (b : BayId) (c : Cycle) (error : Bool) (lanes : BitVec 16) :
    (s.endCycle b c error lanes).link = s.link ∧ (s.endCycle b c error lanes).starvation = s.starvation ∧
    (s.endCycle b c error lanes).windows = s.windows ∧ (s.endCycle b c error lanes).mgmt = s.mgmt ∧
    (s.endCycle b c error lanes).straps = s.straps ∧ (s.endCycle b c error lanes).pending = s.pending := by
  unfold State.endCycle
  dsimp only
  (repeat' split) <;> simp

@[simp] theorem State.identify_frame (s : State) (b : BayId) (c : ModuleClass) :
    (s.identify b c).link = s.link ∧ (s.identify b c).starvation = s.starvation ∧
    (s.identify b c).windows = s.windows ∧ (s.identify b c).mgmt = s.mgmt ∧
    (s.identify b c).straps = s.straps ∧ (s.identify b c).pending = s.pending := by
  unfold State.identify
  dsimp only
  (repeat' split) <;> simp

@[simp] theorem State.takeMrdy_frame (s : State) (b : BayId) :
    (s.takeMrdy b).link = s.link ∧ (s.takeMrdy b).ledger = s.ledger ∧
    (s.takeMrdy b).starvation = s.starvation ∧ (s.takeMrdy b).windows = s.windows ∧
    (s.takeMrdy b).answerOrder = s.answerOrder ∧ (s.takeMrdy b).bus = s.bus ∧
    (s.takeMrdy b).notice = s.notice ∧ (s.takeMrdy b).mgmt = s.mgmt ∧
    (s.takeMrdy b).straps = s.straps ∧ (s.takeMrdy b).pending = s.pending := by
  unfold State.takeMrdy
  simp

@[simp] theorem State.enterUp_frame (s : State) :
    (s.enterUp).starvation = s.starvation ∧ (s.enterUp).windows = s.windows ∧
    (s.enterUp).bays = s.bays ∧ (s.enterUp).answerOrder = s.answerOrder ∧
    (s.enterUp).bus = s.bus ∧ (s.enterUp).mgmt = s.mgmt ∧
    (s.enterUp).straps = s.straps ∧ (s.enterUp).pending = s.pending := by
  unfold State.enterUp
  simp

@[simp] theorem State.enterUp_bay (s : State) (c : BayId) : (s.enterUp).bay c = s.bay c := by
  simp [State.bay]

@[simp] theorem State.enterUpIfTrained_frame (s : State) :
    (s.enterUpIfTrained).starvation = s.starvation ∧ (s.enterUpIfTrained).windows = s.windows ∧
    (s.enterUpIfTrained).bays = s.bays ∧ (s.enterUpIfTrained).answerOrder = s.answerOrder ∧
    (s.enterUpIfTrained).bus = s.bus ∧ (s.enterUpIfTrained).mgmt = s.mgmt ∧
    (s.enterUpIfTrained).straps = s.straps ∧ (s.enterUpIfTrained).pending = s.pending := by
  unfold State.enterUpIfTrained
  (repeat' split) <;> simp

@[simp] theorem State.enterUpIfTrained_bay (s : State) (c : BayId) : (s.enterUpIfTrained).bay c = s.bay c := by
  simp [State.bay]

@[simp] theorem State.overrun_frame (s : State) :
    (s.overrun).ledger = s.ledger ∧ (s.overrun).starvation = s.starvation ∧
    (s.overrun).windows = s.windows ∧ (s.overrun).bays = s.bays ∧
    (s.overrun).answerOrder = s.answerOrder ∧ (s.overrun).bus = s.bus ∧
    (s.overrun).mgmt = s.mgmt ∧ (s.overrun).straps = s.straps ∧
    (s.overrun).pending = s.pending := by
  unfold State.overrun
  simp

@[simp] theorem State.overrun_bay (s : State) (c : BayId) : (s.overrun).bay c = s.bay c := by
  simp [State.bay]

@[simp] theorem State.returnCredit_frame (s : State) (p : Pool) :
    (s.returnCredit p).link = s.link ∧ (s.returnCredit p).starvation = s.starvation ∧
    (s.returnCredit p).windows = s.windows ∧ (s.returnCredit p).bays = s.bays ∧
    (s.returnCredit p).answerOrder = s.answerOrder ∧ (s.returnCredit p).bus = s.bus ∧
    (s.returnCredit p).notice = s.notice ∧ (s.returnCredit p).mgmt = s.mgmt ∧
    (s.returnCredit p).straps = s.straps ∧ (s.returnCredit p).pending = s.pending := by
  unfold State.returnCredit
  simp

@[simp] theorem State.returnCredit_bay (s : State) (p : Pool) (c : BayId) : (s.returnCredit p).bay c = s.bay c := by
  simp [State.bay]

@[simp] theorem State.discard_frame (s : State) (p : Pool) (r : Reason) :
    (s.discard p r).link = s.link ∧ (s.discard p r).starvation = s.starvation ∧
    (s.discard p r).windows = s.windows ∧ (s.discard p r).bays = s.bays ∧
    (s.discard p r).answerOrder = s.answerOrder ∧ (s.discard p r).bus = s.bus ∧
    (s.discard p r).mgmt = s.mgmt ∧ (s.discard p r).straps = s.straps ∧
    (s.discard p r).pending = s.pending := by
  unfold State.discard
  simp

@[simp] theorem State.discard_bay (s : State) (p : Pool) (r : Reason) (c : BayId) : (s.discard p r).bay c = s.bay c := by
  simp [State.bay]

@[simp] theorem State.refuseRequest_frame (s : State) (e : OpenEntry) (st : AnswerStatus) :
    (s.refuseRequest e st).link = s.link ∧ (s.refuseRequest e st).ledger = s.ledger ∧
    (s.refuseRequest e st).starvation = s.starvation ∧ (s.refuseRequest e st).windows = s.windows ∧
    (s.refuseRequest e st).bays = s.bays ∧ (s.refuseRequest e st).bus = s.bus ∧
    (s.refuseRequest e st).notice = s.notice ∧ (s.refuseRequest e st).mgmt = s.mgmt ∧
    (s.refuseRequest e st).straps = s.straps ∧ (s.refuseRequest e st).pending = s.pending := by
  unfold State.refuseRequest
  simp

@[simp] theorem State.refuseRequest_bay (s : State) (e : OpenEntry) (st : AnswerStatus) (c : BayId) : (s.refuseRequest e st).bay c = s.bay c := by
  simp [State.bay]

@[simp] theorem State.deferredReset_frame (s : State) :
    s.deferredReset.straps = s.straps ∧ s.deferredReset.pending = s.pending := by
  exact ⟨rfl, rfl⟩

@[simp] theorem State.departUp_frame (s : State) :
    s.departUp.windows = s.windows ∧ s.departUp.bus = s.bus ∧ s.departUp.straps = s.straps ∧
    s.departUp.pending = s.pending := by
  exact ⟨rfl, rfl, rfl, rfl⟩

@[simp] theorem State.leaveUp_frame (s : State) :
    s.leaveUp.straps = s.straps ∧ s.leaveUp.pending = s.pending := by
  unfold State.leaveUp
  split <;> simp

@[simp] theorem State.takeAfterAppend_frame (s : State) (m : Meeting) :
    (s.takeAfterAppend m).straps = s.straps ∧ (s.takeAfterAppend m).pending = s.pending := by
  cases m <;> simp only [State.takeAfterAppend, State.takeSignalLoss, State.takeSilenceExpiry, State.takeReplayExpiry] <;>
    (repeat' split) <;> simp

@[simp] theorem State.append_frame (s : State) (b : BayId) (e : Entry) (m : Meeting) :
    (s.append b e m).straps = s.straps ∧ (s.append b e m).pending = s.pending := by
  unfold State.append
  simp

@[simp] theorem State.overtake_frame (s : State) (b : BayId) (m : Meeting) :
    (s.overtake b m).link = s.link ∧ (s.overtake b m).starvation = s.starvation ∧
    (s.overtake b m).mgmt = s.mgmt ∧ (s.overtake b m).straps = s.straps ∧
    (s.overtake b m).pending = s.pending := by
  cases m <;> simp [State.overtake]

@[simp] theorem State.routeRequest_frame (s : State) (k : RequestKind) (f : RequestFields) (m : Meeting) :
    (s.routeRequest k f m).straps = s.straps ∧ (s.routeRequest k f m).pending = s.pending := by
  unfold State.routeRequest
  dsimp only
  (repeat' split) <;> simp

@[simp] theorem State.dropAtIntake_frame (s : State) (b : BayId) (st : AnswerStatus) :
    (s.dropAtIntake b st).link = s.link ∧ (s.dropAtIntake b st).starvation = s.starvation ∧
    (s.dropAtIntake b st).windows = s.windows ∧ (s.dropAtIntake b st).bays = s.bays ∧
    (s.dropAtIntake b st).answerOrder = s.answerOrder ∧ (s.dropAtIntake b st).bus = s.bus ∧
    (s.dropAtIntake b st).mgmt = s.mgmt ∧ (s.dropAtIntake b st).straps = s.straps ∧
    (s.dropAtIntake b st).pending = s.pending := by
  unfold State.dropAtIntake
  simp

@[simp] theorem State.dropAtIntake_bay (s : State) (b : BayId) (st : AnswerStatus) (c : BayId) : (s.dropAtIntake b st).bay c = s.bay c := by
  simp [State.bay]

@[simp] theorem State.routeStore_frame (s : State) (f : StoreFields) (m : Meeting) :
    (s.routeStore f m).straps = s.straps ∧ (s.routeStore f m).pending = s.pending := by
  unfold State.routeStore
  dsimp only
  (repeat' split) <;> simp

@[simp] theorem State.countStarvation_frame (s : State) :
    (s.countStarvation).link = s.link ∧ (s.countStarvation).ledger = s.ledger ∧
    (s.countStarvation).windows = s.windows ∧ (s.countStarvation).bays = s.bays ∧
    (s.countStarvation).answerOrder = s.answerOrder ∧ (s.countStarvation).bus = s.bus ∧
    (s.countStarvation).notice = s.notice ∧ (s.countStarvation).mgmt = s.mgmt ∧
    (s.countStarvation).straps = s.straps ∧ (s.countStarvation).pending = s.pending := by
  unfold State.countStarvation
  (repeat' split) <;> simp

@[simp] theorem State.countStarvation_bay (s : State) (c : BayId) : (s.countStarvation).bay c = s.bay c := by
  simp [State.bay]

@[simp] theorem State.intakeRequest_frame (s : State) (k : RequestKind) (f : Option RequestFields) (m : Meeting) :
    (s.intakeRequest k f m).straps = s.straps ∧ (s.intakeRequest k f m).pending = s.pending := by
  unfold State.intakeRequest State.withCredit
  dsimp only
  (repeat' split) <;> simp

@[simp] theorem State.intakeStore_frame (s : State) (f : Option StoreFields) (m : Meeting) :
    (s.intakeStore f m).straps = s.straps ∧ (s.intakeStore f m).pending = s.pending := by
  unfold State.intakeStore State.withCredit
  dsimp only
  (repeat' split) <;> simp

@[simp] theorem State.intakeMgmtShort_frame (s : State) :
    (s.intakeMgmtShort).starvation = s.starvation ∧ (s.intakeMgmtShort).windows = s.windows ∧
    (s.intakeMgmtShort).bays = s.bays ∧ (s.intakeMgmtShort).answerOrder = s.answerOrder ∧
    (s.intakeMgmtShort).bus = s.bus ∧ (s.intakeMgmtShort).mgmt = s.mgmt ∧
    (s.intakeMgmtShort).straps = s.straps ∧ (s.intakeMgmtShort).pending = s.pending := by
  unfold State.intakeMgmtShort State.withCredit
  dsimp only
  (repeat' split) <;> simp

@[simp] theorem State.intakeMgmtShort_bay (s : State) (c : BayId) : (s.intakeMgmtShort).bay c = s.bay c := by
  simp [State.bay]

@[simp] theorem State.intakeUnknown_frame (s : State) :
    (s.intakeUnknown).link = s.link ∧ (s.intakeUnknown).ledger = s.ledger ∧
    (s.intakeUnknown).starvation = s.starvation ∧ (s.intakeUnknown).windows = s.windows ∧
    (s.intakeUnknown).bays = s.bays ∧ (s.intakeUnknown).answerOrder = s.answerOrder ∧
    (s.intakeUnknown).bus = s.bus ∧ (s.intakeUnknown).mgmt = s.mgmt ∧
    (s.intakeUnknown).straps = s.straps ∧ (s.intakeUnknown).pending = s.pending := by
  unfold State.intakeUnknown
  (repeat' split) <;> simp

@[simp] theorem State.intakeUnknown_bay (s : State) (c : BayId) : (s.intakeUnknown).bay c = s.bay c := by
  simp [State.bay]

@[simp] theorem State.reportUnresponsive_frame (s : State) (b : BayId) :
    (s.reportUnresponsive b).link = s.link ∧ (s.reportUnresponsive b).starvation = s.starvation ∧
    (s.reportUnresponsive b).windows = s.windows ∧ (s.reportUnresponsive b).mgmt = s.mgmt ∧
    (s.reportUnresponsive b).straps = s.straps ∧ (s.reportUnresponsive b).pending = s.pending := by
  unfold State.reportUnresponsive
  (repeat' split) <;> simp

/-- What QUIESCE leaves alone (R107). -/
theorem commandQuiesce_frame (o : List Byte) (s : State) :
    (commandQuiesce o s).after.link = s.link ∧ (commandQuiesce o s).after.starvation = s.starvation ∧
    (commandQuiesce o s).after.windows = s.windows ∧ (commandQuiesce o s).after.mgmt = s.mgmt ∧
    (commandQuiesce o s).after.straps = s.straps ∧ (commandQuiesce o s).after.pending = s.pending := by
  unfold commandQuiesce
  (repeat' split) <;> simp [State.refuse, State.done]

theorem State.intakeQuiesce_frame (s : State) (seq : Byte) (o : List Byte) :
    (s.intakeMgmt seq (commandQuiesce o)).starvation = s.starvation ∧
    (s.intakeMgmt seq (commandQuiesce o)).straps = s.straps ∧
    (s.intakeMgmt seq (commandQuiesce o)).pending = s.pending := by
  unfold State.intakeMgmt State.withCredit State.acceptMgmt
  dsimp only
  (repeat' split) <;> simp [commandQuiesce_frame]

@[simp] theorem State.takeBefore_frame (s : State) (b : BayId) (x : BeforeReport) :
    (s.takeBefore b x).starvation = s.starvation ∧ (s.takeBefore b x).straps = s.straps ∧
    (s.takeBefore b x).pending = s.pending := by
  cases x <;> simp only [State.takeBefore]
  case quiesce seq operands => exact State.intakeQuiesce_frame s seq operands
  all_goals simp

@[simp] theorem State.overrun_linkState (s : State) : s.overrun.link.state = s.link.state := by
  unfold State.overrun
  simp

/-- What may be taken ahead of a report does not move the link. -/
@[simp] theorem State.takeBefore_linkState (s : State) (b : BayId) (x : BeforeReport) :
    (s.takeBefore b x).link.state = s.link.state := by
  cases x <;> simp only [State.takeBefore]
  case quiesce seq operands =>
    unfold State.intakeMgmt State.withCredit State.acceptMgmt
    dsimp only
    (repeat' split) <;> simp [commandQuiesce_frame]
  all_goals simp

@[simp] theorem State.timeoutRequest_frame (s : State) (b : BayId) (x : BeforeReport) :
    (s.timeoutRequest b x).starvation = s.starvation ∧ (s.timeoutRequest b x).straps = s.straps ∧
    (s.timeoutRequest b x).pending = s.pending := by
  unfold State.timeoutRequest
  (repeat' split) <;> simp

@[simp] theorem State.timeoutCycle_frame (s : State) (b : BayId) (x : BeforeReport) :
    (s.timeoutCycle b x).starvation = s.starvation ∧ (s.timeoutCycle b x).straps = s.straps ∧
    (s.timeoutCycle b x).pending = s.pending := by
  unfold State.timeoutCycle
  dsimp only
  (repeat' split) <;> simp

@[simp] theorem State.timeoutCycle_linkState (s : State) (b : BayId) (x : BeforeReport) :
    (s.timeoutCycle b x).link.state = s.link.state := by
  unfold State.timeoutCycle State.timeoutRequest
  dsimp only
  (repeat' split) <;> simp

@[simp] theorem State.placeGrantNow_frame (s : State) :
    (s.placeGrantNow).windows = s.windows ∧ (s.placeGrantNow).bays = s.bays ∧
    (s.placeGrantNow).answerOrder = s.answerOrder ∧ (s.placeGrantNow).bus = s.bus ∧
    (s.placeGrantNow).notice = s.notice ∧ (s.placeGrantNow).mgmt = s.mgmt ∧
    (s.placeGrantNow).straps = s.straps ∧ (s.placeGrantNow).pending = s.pending := by
  unfold State.placeGrantNow
  simp

@[simp] theorem State.placeGrantNow_bay (s : State) (c : BayId) : (s.placeGrantNow).bay c = s.bay c := by
  simp [State.bay]

@[simp] theorem State.placeResponseNow_frame (s : State) (r : MgmtResp) :
    (s.placeResponseNow r).windows = s.windows ∧ (s.placeResponseNow r).bays = s.bays ∧
    (s.placeResponseNow r).answerOrder = s.answerOrder ∧ (s.placeResponseNow r).bus = s.bus ∧
    (s.placeResponseNow r).notice = s.notice ∧ (s.placeResponseNow r).straps = s.straps ∧
    (s.placeResponseNow r).pending = s.pending := by
  unfold State.placeResponseNow
  simp

@[simp] theorem State.placeResponseNow_bay (s : State) (r : MgmtResp) (c : BayId) : (s.placeResponseNow r).bay c = s.bay c := by
  simp [State.bay]

@[simp] theorem State.placeAnswerNow_frame (s : State) (e : OpenEntry) (rest : List OpenEntry) :
    (s.placeAnswerNow e rest).windows = s.windows ∧ (s.placeAnswerNow e rest).bays = s.bays ∧
    (s.placeAnswerNow e rest).bus = s.bus ∧ (s.placeAnswerNow e rest).notice = s.notice ∧
    (s.placeAnswerNow e rest).mgmt = s.mgmt ∧ (s.placeAnswerNow e rest).straps = s.straps ∧
    (s.placeAnswerNow e rest).pending = s.pending := by
  unfold State.placeAnswerNow
  simp

@[simp] theorem State.placeAnswerNow_bay (s : State) (e : OpenEntry) (rest : List OpenEntry) (c : BayId) : (s.placeAnswerNow e rest).bay c = s.bay c := by
  simp [State.bay]

@[simp] theorem State.placeNoticeNow_frame (s : State) (r : NoticeRecord) (rest : List NoticeRecord) :
    (s.placeNoticeNow r rest).ledger = s.ledger ∧ (s.placeNoticeNow r rest).windows = s.windows ∧
    (s.placeNoticeNow r rest).bays = s.bays ∧ (s.placeNoticeNow r rest).answerOrder = s.answerOrder ∧
    (s.placeNoticeNow r rest).bus = s.bus ∧ (s.placeNoticeNow r rest).mgmt = s.mgmt ∧
    (s.placeNoticeNow r rest).straps = s.straps ∧ (s.placeNoticeNow r rest).pending = s.pending := by
  unfold State.placeNoticeNow
  simp

@[simp] theorem State.placeNoticeNow_bay (s : State) (r : NoticeRecord) (rest : List NoticeRecord) (c : BayId) : (s.placeNoticeNow r rest).bay c = s.bay c := by
  simp [State.bay]

end Sys2Proof.Machine
end

