-- ==== Sys2Proof/Laws/Exec.lean ====
section
/-! SUPPORT. The commands seen from outside: every command has a next state; a packet at intake is `State.intake` of that
packet; and the sixteen management commands by their codes. -/

namespace Sys2Proof.Machine

/-- The packet that a command of the intake family puts to intake. -/
def packetOfCommand : Instr → Option Packet
  | .fetch a => some (.fetch a.content)
  | .store a => some (.store a.content)
  | .portFetch a => some (.portFetch a.content)
  | .portStore a => some (.portStore a.content)
  | .unknownPacketKind kind body => some (packetOf (kind :: body))
  | .malformedMgmtPacket _ => some .mgmtShort
  | .mgmtSequenceReplay q code o => some (.mgmt q code o)
  | .unknownCommand q code o => some (.mgmt q code o)
  | .identify q o => some (.mgmt q 0x01 o)
  | .windowWrite q o => some (.mgmt q 0x10 o)
  | .windowRead q o => some (.mgmt q 0x11 o)
  | .windowClear q o => some (.mgmt q 0x12 o)
  | .windowClearBay q o => some (.mgmt q 0x13 o)
  | .bayStatus q o => some (.mgmt q 0x20 o)
  | .bayPolicy q o => some (.mgmt q 0x21 o)
  | .powerOn q o => some (.mgmt q 0x22 o)
  | .quiesce q o => some (.mgmt q 0x23 o)
  | .bayRestart q o => some (.mgmt q 0x24 o)
  | .eventRead q o => some (.mgmt q 0x30 o)
  | .eventEnable q o => some (.mgmt q 0x31 o)
  | .eventClear q o => some (.mgmt q 0x32 o)
  | .eventInject q o => some (.mgmt q 0x33 o)
  | .countersRead q o => some (.mgmt q 0x40 o)
  | .bridgeReset q o => some (.mgmt q 0x7F o)
  | _ => none

/-- The event that the packet of a command meets. -/
def meetingOfCommand : Instr → Meeting
  | .fetch a | .portFetch a | .portStore a => a.meets
  | .store a => a.meets
  | _ => .nothing

/-- A command of the intake family is the arrival of its packet. -/
theorem exec_packet {i : Instr} {p : Packet} (h : packetOfCommand i = some p) (s : State) :
    exec i s = .next (s.intake p (meetingOfCommand i)) := by
  cases i <;> first
    | (injection h with h; subst h; rfl)
    | (injection h)

/-- Every command has a next state. -/
theorem exec_answers (i : Instr) (s : State) : ∃ t, exec i s = .next t := by
  cases i <;> exact ⟨_, rfl⟩

/-- A choice that finds something finds its first candidate or one of the rest. -/
theorem first_or_rest {α : Type} {c : Prop} [Decidable c] {a f : α} {rest : Option α}
    (h : (if c then some a else rest) = some f) : f = a ∨ rest = some f := by
  by_cases hc : c
  · rw [if_pos hc] at h
    injection h with h
    exact .inl h.symm
  · rw [if_neg hc] at h
    exact .inr h

/-- A command code names one of the sixteen commands (R166), or none. -/
theorem commandOf_cases {code : Byte} {f : List Byte → State → CommandResult} (h : commandOf code = some f) :
    f = commandIdentify ∨ f = commandWindowWrite ∨ f = commandWindowRead ∨ f = commandWindowClear ∨
    f = commandWindowClearBay ∨ f = commandBayStatus ∨ f = commandBayPolicy ∨ f = commandPowerOn ∨
    f = commandQuiesce ∨ f = commandBayRestart ∨ f = commandEventRead ∨ f = commandEventEnable ∨
    f = commandEventClear ∨ f = commandEventInject ∨ f = commandCountersRead ∨ f = commandBridgeReset := by
  unfold commandOf at h
  iterate 15 refine (first_or_rest h).imp id (fun h => ?_)
  exact (first_or_rest h).resolve_right (fun h => by injection h)

/-- What holds of every command at its acceptance, and of a refusal, holds of the execution of any code. -/
theorem commandByCode_induction {P : CommandResult → Prop} (s : State) (o : List Byte)
    (refuse : ∀ st, P (s.refuse st)) (identify : P (commandIdentify o s)) (windowWrite : P (commandWindowWrite o s))
    (windowRead : P (commandWindowRead o s)) (windowClear : P (commandWindowClear o s))
    (windowClearBay : P (commandWindowClearBay o s)) (bayStatus : P (commandBayStatus o s))
    (bayPolicy : P (commandBayPolicy o s)) (powerOn : P (commandPowerOn o s)) (quiesce : P (commandQuiesce o s))
    (bayRestart : P (commandBayRestart o s)) (eventRead : P (commandEventRead o s))
    (eventEnable : P (commandEventEnable o s)) (eventClear : P (commandEventClear o s))
    (eventInject : P (commandEventInject o s)) (countersRead : P (commandCountersRead o s))
    (bridgeReset : P (commandBridgeReset o s)) (code : Byte) : P (commandByCode code o s) := by
  unfold commandByCode
  split
  next f h =>
    rcases commandOf_cases h with
      h | h | h | h | h | h | h | h | h | h | h | h | h | h | h | h <;> (rw [h]; assumption)
  next => exact refuse _

/-- What a command can do: it changes nothing, or its own effect takes place in a state that meets its condition. What
holds in each of these cases holds after every command. -/
theorem exec_induction {P : State → Prop} (s : State)
    (nothing : P s)
    (reset : ∀ epoch straps, P (s.resetAll epoch straps))
    (deferredReset : s.mgmt.resetTimer = true → s.mgmt.resetPending = true → P s.deferredReset)
    (enterTraining : s.link.state = .down → P (s.setLink s.link.enterTraining))
    (sendTrain : s.link.state = .training → P (s.setLink s.link.sendTrain).enterUpIfTrained)
    (enterDown : s.link.state = .training → P (s.setLink s.link.enterDown))
    (countTrain : ∀ ready, s.link.state = .training → P (s.setLink (s.link.countTrain ready)).enterUpIfTrained)
    (badInTraining : s.link.state = .training → P (s.setLink { s.link.countBad with trainsInRow := 0 }))
    (badInUp : s.link.state = .up → P (s.setLink s.link.countBad.sendResend))
    (accept : ∀ p m, s.link.state = .up → P ((s.setLink s.link.activity.accept).intake p m))
    (duplicate : s.link.state = .up → P (s.setLink s.link.activity.sendAck))
    (gap : s.link.state = .up → P (s.setLink s.link.activity.sendResend))
    (ackTimer : s.link.state = .up → s.link.timers.ack = true → P (s.setLink s.link.sendAck))
    (ackReceived : ∀ n, s.link.state = .up → P (s.takeAck n))
    (resendReceived : ∀ n, s.link.state = .up → P (s.setLink (s.link.takeResend n)))
    (idleReceived : s.link.state = .up → P (s.setLink s.link.activity))
    (leaveUp : s.link.state = .up → P s.leaveUp)
    (replayAgain : s.link.state = .up → s.link.replay ≠ [] → s.link.attempts < 3 → P (s.setLink s.link.replayAgain))
    (exhaustion : s.link.state = .up → P (s.setLink s.link.countExhaustion).leaveUp)
    (keepalive : s.link.state = .up → P (s.setLink s.link.sendIdle))
    (frameEnd : s.link.tx.current.isSome = true → P (s.setLink s.link.frameEnd))
    (intake : ∀ p m, P (s.intake p m))
    (busGrant : ∀ b, s.grantee = some b → P (s.grantBus b))
    (held : ∀ b c r, (s.bay b).engine.running = some (c, r) → P (s.updEngine b (fun e => e.held c r)))
    (endCycle : ∀ b c r error lanes, (s.bay b).engine.running = some (c, r) → P (s.endCycle b c error lanes))
    (timeoutCycle : ∀ b r before, (s.bay b).engine.running = some r → P (s.timeoutCycle b before))
    (contactAsserted : ∀ b c, P (s.setBay b ((s.bay b).contactAsserted c)))
    (contactDeasserted : ∀ b c, P (s.setBay b ((s.bay b).contactDeasserted c)))
    (stablePresence : ∀ b, (s.bay b).life.awaits .settling .stablePresence = true →
      P ((s.setBay b (s.bay b).enterIdentifying).raise (.bay b .inserted) none))
    (removal : ∀ b, (s.bay b).life.state.filtered = true → (s.bay b).life.filter = .timing → P (s.removeModule b))
    (identify : ∀ b c, (s.bay b).life.awaits .identifying .senseSettle = true → P (s.identify b c))
    (pgoodTaken : ∀ b, (s.bay b).life.awaitsPgood = true →
      P ((s.setPgood b true).updLife b Lifecycle.pgoodArrived))
    (pgoodLevel : ∀ b level, ((s.bay b).life.awaitsPgood = true → level = false) →
      ((s.bay b).life.watchesPgood = true → level = true) → P (s.setPgood b level))
    (powerGoodWait : ∀ b, (s.bay b).life.awaits .powering .powerGoodWait = true → P (s.enterFaulted b .powerFail))
    (powerSettle : ∀ b, (s.bay b).life.awaits .powering .powerSettle = true →
      P (s.updLife b (fun l => { l with state := .resetting, phase := none, timer := some .moduleReset })))
    (pgoodLost : ∀ b, (s.bay b).life.watchesPgood = true → P ((s.setPgood b false).enterFaulted b .powerFail))
    (released : ∀ b, (s.bay b).life.awaits .resetting .moduleReset = true → P (s.updLife b Lifecycle.released))
    (releasedReady : ∀ b, (s.bay b).life.awaits .resetting .moduleReset = true →
      P ((s.updLife b Lifecycle.released).takeMrdy b))
    (mrdy : ∀ b, (s.bay b).life.state = .profiling → (s.bay b).life.mrdySeen = false → P (s.takeMrdy b))
    (readyTimeout : ∀ b, (s.bay b).life.awaits .profiling .ready = true → P (s.enterFaulted b .readyTimeout))
    (attention : ∀ b, (s.bay b).life.watchesAttention = true → P (s.raise (.bay b .attention) none))
    (quiesced : ∀ b, (s.bay b).life.state = .quiescing → (s.bay b).list = [] → P (s.completeQuiesce b))
    (grantTimer : s.ledger.grantTimer = true → P (s.setLedger s.ledger.timerExpired))
    (placeGrant : s.arbiterChoice = some .grant → P s.placeGrantNow)
    (placeResponse : ∀ r, s.mgmt.last = some r → s.arbiterChoice = some .mgmtResp → P (s.placeResponseNow r))
    (placeAnswer : ∀ e rest, s.answerOrder = e :: rest → s.arbiterChoice = some .answer → P (s.placeAnswerNow e rest))
    (placeNotice : ∀ r rest, s.notice.queue = r :: rest → s.arbiterChoice = some .notice →
      P (s.placeNoticeNow r rest))
    {i : Instr} {t : State} (h : exec i s = .next t) : P t := by
  cases hp : packetOfCommand i with
  | some p =>
    rw [exec_packet hp] at h
    injection h with h
    exact h ▸ intake p _
  | none =>
    cases i <;> first | (injection hp; done) | (injection h with h; subst h)
    case powerOnReset straps => exact reset 0 straps
    case resetTimerExpiry =>
      split
      next c => simp only [Bool.and_eq_true] at c; exact deferredReset c.1 c.2
      next => exact nothing
    case holdOffExpiry =>
      split
      next c => exact enterTraining c.1
      next => exact nothing
    case trainIntervalExpiry =>
      split
      next c => exact sendTrain c.1
      next => exact nothing
    case trainingTimerExpiry =>
      split
      next c => exact enterDown c.1
      next => exact nothing
    case trainReceived ready epoch =>
      split
      next c => exact countTrain ready c
      next => exact nothing
    case badFrameReceived =>
      split
      next => exact nothing
      next c => exact badInTraining c
      next c => exact badInUp c
    case sequencedFrameReceived seq payload =>
      split
      next c =>
        split
        next => exact accept _ _ c
        next =>
          split
          next => exact duplicate c
          next => exact gap c
      next => exact nothing
    case ackTimerExpiry =>
      split
      next c => exact ackTimer c.1 c.2
      next => exact nothing
    case ackReceived n =>
      split
      next c => exact ackReceived n c
      next => exact nothing
    case resendReceived n =>
      split
      next c => exact resendReceived n c
      next => exact nothing
    case idleReceived =>
      split
      next c => exact idleReceived c
      next => exact nothing
    case receiveSignalLoss =>
      unfold State.takeSignalLoss
      split
      next => exact nothing
      next c => exact enterDown c
      next c => exact leaveUp c
    case silenceTimerExpiry =>
      unfold State.takeSilenceExpiry
      split
      next c => exact leaveUp c.1
      next => exact nothing
    case replayTimerExpiry =>
      unfold State.takeReplayExpiry
      split
      next c =>
        split
        next d => exact replayAgain c.1 c.2.2 d
        next => exact exhaustion c.1
      next => exact nothing
    case keepaliveExpiry =>
      split
      next c => exact keepalive c.1
      next => exact nothing
    case frameTransmissionEnd =>
      split
      next c => exact frameEnd c
      next => exact nothing
    case busGrant =>
      split
      next b c => exact busGrant b c
      next => exact nothing
    case cycleMinLengthExpiry b wait error lanes =>
      split
      next c r run =>
        split
        next => exact nothing
        next =>
          split
          next => exact held b c r run
          next => exact endCycle b c r error lanes run
      next => exact nothing
    case waitRelease b error lanes =>
      split
      next c r run =>
        split
        next => exact endCycle b c r error lanes run
        next => exact nothing
      next => exact nothing
    case accessTimerExpiry b before =>
      split
      next r run => exact timeoutCycle b r before run
      next => exact nothing
    case presenceContactAsserted b c => exact contactAsserted b c
    case presenceContactDeasserted b c => exact contactDeasserted b c
    case stablePresenceExpiry b =>
      split
      next c => exact stablePresence b c
      next => exact nothing
    case removalTimerExpiry b =>
      unfold State.takeRemoval
      split
      next c => simp only [Bool.and_eq_true, beq_iff_eq] at c; exact removal b c.1 c.2
      next => exact nothing
    case senseSettleExpiry b sense1 sense0 =>
      split
      next c => exact identify b _ c
      next => exact nothing
    case pgoodArrival b =>
      split
      next c => exact pgoodTaken b c
      next c => exact pgoodLevel b true (fun h => absurd h c) (fun _ => rfl)
    case powerGoodWaitExpiry b =>
      split
      next c => exact powerGoodWait b c
      next => exact nothing
    case powerSettleExpiry b =>
      split
      next c => exact powerSettle b c
      next => exact nothing
    case pgoodLoss b =>
      unfold State.takePgoodLoss
      split
      next c => exact pgoodLost b c
      next c => exact pgoodLevel b false (fun _ => rfl) (fun h => absurd h c)
    case moduleResetExpiry b ready =>
      split
      next c =>
        split
        next => exact releasedReady b c
        next => exact released b c
      next => exact nothing
    case mrdyArrival b =>
      split
      next c => exact mrdy b c.1 c.2
      next => exact nothing
    case readyTimerExpiry b =>
      split
      next c => exact readyTimeout b c
      next => exact nothing
    case attnRisingEdge b =>
      split
      next c => exact attention b c
      next => exact nothing
    case quiesceCompletion b =>
      unfold State.takeQuiesceCompletion
      split
      next c => exact quiesced b c.1 c.2
      next => exact nothing
    case grantTimerExpiry =>
      split
      next c => exact grantTimer c
      next => exact nothing
    case placeGrant =>
      split
      next c => exact placeGrant c
      next => exact nothing
    case placeMgmtResp =>
      split
      next r last =>
        split
        next c => exact placeResponse r last c
        next => exact nothing
      next => exact nothing
    case placeAnswer =>
      split
      next e rest order =>
        split
        next c => exact placeAnswer e rest order c
        next => exact nothing
      next => exact nothing
    case placeNotice =>
      split
      next r rest queue =>
        split
        next c => exact placeNotice r rest queue c
        next => exact nothing
      next => exact nothing

/-- What is kept by a step is kept by `exec` on the state without the command. -/
theorem step_of_exec {P : State → Prop} (hp : ∀ s q, P s → P (s.setPending q))
    (he : ∀ i s t, P s → exec i s = .next t → P t) {s t : State} (h : P s) (e : step s = .next t) : P t := by
  unfold step at e
  split at e
  · injection e with e
    exact e ▸ h
  · exact he _ _ _ (hp _ _ h) e

end Sys2Proof.Machine
end

