-- ==== Sys2Proof/Laws/Acceptance.lean ====
section
/-! SUPPORT. What the acceptance of a packet and the choice of the Transmit Arbiter do, seen from their conditions. -/

namespace Sys2Proof.Machine

/-! ## The credit check -/

theorem State.withCredit_pass {s : State} {p : Pool} (h : s.HasCredit p) (next : State → State) :
    s.withCredit p next = next (s.consumed p) := by
  unfold State.withCredit State.isUp
  rw [if_pos (by simp [h.1]), if_neg (by have := h.2; omega)]
  rfl

theorem State.withCredit_overrun {s : State} {p : Pool} (up : s.link.state = .up)
    (h : (s.ledger.get p).outstanding = 0) (next : State → State) : s.withCredit p next = s.overrun := by
  unfold State.withCredit State.isUp
  rw [if_pos (by simp [up]), if_pos h]

theorem State.withCredit_notUp {s : State} {p : Pool} (h : s.link.state ≠ .up) (next : State → State) :
    s.withCredit p next = s := by
  unfold State.withCredit State.isUp
  rw [if_neg (by simp [h])]

theorem State.consumed_returnCredit (s : State) (p : Pool) : (s.consumed p).returnCredit p = s.passedThrough p := by
  cases p <;> rfl

@[simp] theorem State.consumed_bay (s : State) (p : Pool) (b : BayId) : (s.consumed p).bay b = s.bay b := rfl

/-- The tags in force, as a test and as a list. -/
theorem State.tagInForce_iff (s : State) (tag : BitVec 6) : s.tagInForce tag = true ↔ tag ∈ s.tagsInForce := by
  have h : ∀ e : Entry, e.hasTag tag = true ↔ e.openTag = some tag := by
    intro e
    cases e <;> simp [Entry.hasTag, Entry.openTag]
  simp only [State.tagInForce, State.tagsInForce, Bool.or_eq_true, List.any_eq_true, List.mem_append,
    List.mem_flatMap, List.mem_filterMap, List.mem_map, beq_iff_eq, h]

/-! ## The Management Unit -/

/-- A management command is the acceptance of its code and operands. -/
theorem exec_mgmtFields {i : Instr} {q code : Byte} {o : List Byte} (h : mgmtFields i = some (q, code, o)) (s : State) :
    exec i s = .next (s.intakeMgmt q (commandByCode code o)) := by
  have : packetOfCommand i = some (.mgmt q code o) := by
    cases i <;> first
      | (injection h with h; injection h with h1 h2; injection h2 with h2 h3; subst h1 h2 h3; rfl)
      | (injection h)
  rw [exec_packet this]
  rfl

/-- An accepted command gives the state after it, with its response. The command meets the consumed credit. -/
theorem State.intakeMgmt_accept {s : State} {q : Byte} (h : s.AcceptsMgmt q) (command : State → CommandResult)
    (t : State) (status : MgmtStatus) (results : List Byte)
    (h1 : (command (s.consumed .mgmt)).status = status) (h2 : (command (s.consumed .mgmt)).results = results)
    (h3 : (command (s.consumed .mgmt)).after = t.setLedger
      { t.ledger with mgmt := ⟨t.ledger.mgmt.outstanding - 1, t.ledger.mgmt.pendingReturn⟩ }) :
    s.intakeMgmt q command = t.responded q status results := by
  unfold State.intakeMgmt
  rw [State.withCredit_pass (p := .mgmt) ⟨h.1, h.2.1⟩]
  unfold State.acceptMgmt
  refine (if_neg h.2.2).trans ?_
  dsimp only
  rw [h1, h2, h3]
  rfl

/-- A refused command changes nothing but the management context. -/
theorem State.intakeMgmt_refuse {s : State} {q : Byte} (h : s.AcceptsMgmt q) (command : State → CommandResult)
    (status : MgmtStatus) (refused : command (s.consumed .mgmt) = (s.consumed .mgmt).refuse status) :
    s.intakeMgmt q command = s.responded q status [] := by
  apply State.intakeMgmt_accept h <;> rw [refused] <;> rfl

/-! ## Operands -/

theorem bayOperand_of {x : Byte} {b : BayId} (h : x.toNat = b.toNat) : bayOperand x = some b := by
  unfold bayOperand
  rw [h]
  cases b <;> rfl

theorem bayOperand_none {x : Byte} (h : 6 ≤ x.toNat) : bayOperand x = none := by
  unfold bayOperand BayId.ofNat?
  split <;> first | omega | rfl

theorem indexOperand_none {x : Byte} (h : 32 ≤ x.toNat) : indexOperand x = none := by
  unfold indexOperand
  rw [dif_neg (by omega)]

theorem sourceOperand_code (source : Source) : sourceOperand source.code = some source := by
  cases source with
  | bay b => cases b <;> rfl
  | bridge => rfl

theorem eventKindsOperands_own {source : Source} {kinds : BitVec 8} (h : kinds &&& ~~~source.kinds = 0#8) :
    eventKindsOperands [source.code, kinds] = some (source, kinds) := by
  unfold eventKindsOperands kindsOperand
  dsimp only
  rw [sourceOperand_code]
  dsimp only
  rw [if_pos h]

/-! ## The arbiter -/

/-- With the link UP, room in the replay list, and no notice that has waited too long, the choice is by class order. -/
theorem State.arbiterChoice_classOrder {s : State} (up : s.link.state = .up) (room : s.link.replay.length < 16)
    (guard : s.starvation < 8 ∨ s.notice.queue = []) : s.arbiterChoice = s.classOrder := by
  unfold State.arbiterChoice State.isUp
  rw [if_pos (by simp [up, room, Config.replayCapacity]), if_neg]
  rcases guard with h | h
  · have : ¬(Config.starvationLimit ≤ s.starvation) := by
      unfold Config.starvationLimit
      omega
    simp [this]
  · simp [h]

theorem State.arbiterChoice_none {s : State} (h : s.link.state ≠ .up ∨ 16 ≤ s.link.replay.length) :
    s.arbiterChoice = none := by
  unfold State.arbiterChoice State.isUp
  refine if_neg ?_
  rcases h with h | h
  · simp [h]
  · have : ¬(s.link.replay.length < Config.replayCapacity) := by
      unfold Config.replayCapacity
      omega
    simp [this]

end Sys2Proof.Machine
end

