-- ==== Sys2Proof/Laws/Bays.lean ====
section
/-! SUPPORT. What each shared operation makes of the bays: one lemma per operation, for the bay it acts on and for every
other bay. -/

namespace Sys2Proof.Machine

/-- The bay after the start of its next request (R51, R52). -/
def Bay.startRequest (bay : Bay) : Bay :=
  match bay.list with
  | [] => bay
  | head :: rest =>
    match head.snap with
    | none => bay
    | some snap =>
      if bay.engine.state = .idle ∧ bay.engine.work = .none ∧ head.isQueued = true ∧ bay.life.state.served = true then
        { bay with list := head.activated :: rest, engine := bay.engine.started bay.life.summary head snap }
      else bay

/-- The bay in FAULTED (R92). -/
def Bay.faulted (bay : Bay) (reason : FaultReason) : Bay :=
  { bay with
    engine := bay.engine.cleared, list := [],
    life := { bay.life.poweredDown with state := .faulted, faultReason := some reason, lamp := .blinking } }

/-- The bay in EMPTY after a removal (R101). -/
def Bay.emptied (bay : Bay) : Bay :=
  { bay with
    engine := bay.engine.cleared, list := [],
    life := { bay.life.poweredDown with
      state := .empty, faultReason := none, moduleClass := none, lamp := .off, filter := .idle } }

/-- The bay at the completion of a quiesce (R112). -/
def Bay.quiesceDone (bay : Bay) : Bay :=
  { bay with life := { bay.life.quiescedNow with mrdySeen := bay.life.mrdySeen } }

/-- The bay in READY (R89). -/
def Bay.readied (bay : Bay) (summary : ProfileSummary) : Bay :=
  { bay with
    life := { bay.life with state := .ready, summary := some summary, timer := none },
    engine := { bay.engine with timeoutStreak := 0 } }

/-- The bay's engine and list at an ABANDON (R70, R109). -/
def Bay.abandoned (bay : Bay) : Bay :=
  if bay.engine.state = .inCycle then
    { bay with engine := { bay.engine with stopAfterCycle := true }, list := bay.list.take 1 }
  else { bay with engine := bay.engine.cleared, list := [] }

/-- A quiesce that finds the list empty completes (R108, R112). -/
def Bay.quiesceIfEmpty (bay : Bay) : Bay := if bay.list = [] then bay.quiesceDone else bay

/-- The bay at the entry to QUIESCING (R108, R109). -/
def Bay.quiescing (bay : Bay) (mode : QuiesceMode) : Bay :=
  let bay : Bay := { bay with life := { bay.life with state := .quiescing, quiesceMode := some mode } }
  match mode with
  | .drain => bay.quiesceIfEmpty
  | .abandon => bay.abandoned.quiesceIfEmpty

/-- The engine takes the profile read (R68). -/
def Bay.profiled (bay : Bay) : Bay :=
  { bay with
    engine := { bay.engine with
      state := .awaitingBus, work := .profileRead, effectiveWidth := none, effectiveWaitClass := none,
      cycle := some (profileCycle 0), profileBytes := [] } }

@[simp] theorem State.setPgood_bay (s : State) (b c : BayId) (level : Bool) :
    (s.setPgood b level).bay c = if b = c then { s.bay b with pgood := level } else s.bay c := by
  simp [State.setPgood]

@[simp] theorem State.endHead_bay (s : State) (b c : BayId) (st : AnswerStatus) :
    (s.endHead b st).bay c = if b = c then { s.bay b with list := (s.bay b).list.tail } else s.bay c := by
  unfold State.endHead
  split
  next h =>
    split
    next e => subst e; rw [h, List.tail_nil, ← h]
    next => rfl
  next h => simp [h]

/-- The bay after the end of the request it serves (R65, R66). -/
def Bay.finished (bay : Bay) (st : AnswerStatus) : Bay :=
  { bay with
    list := bay.list.tail,
    engine := { bay.engine.cleared with timeoutStreak := streakAfter bay.engine.timeoutStreak st } }

@[simp] theorem State.finishRequest_bay (s : State) (b c : BayId) (st : AnswerStatus) :
    (s.finishRequest b st).bay c = if b = c then (s.bay b).finished st else s.bay c := by
  unfold State.finishRequest Bay.finished
  simp only [State.updEngine_bay, State.endHead_bay]
  split <;> simp_all [Engine.cleared]

@[simp] theorem State.purge_bay (s : State) (b c : BayId) (st : AnswerStatus) :
    (s.purge b st).bay c = if b = c then { s.bay b with list := [] } else s.bay c := by
  unfold State.purge
  simp

@[simp] theorem State.purgeBehindHead_bay (s : State) (b c : BayId) (st : AnswerStatus) :
    (s.purgeBehindHead b st).bay c = if b = c then { s.bay b with list := (s.bay b).list.take 1 } else s.bay c := by
  unfold State.purgeBehindHead
  split
  next h =>
    split
    next e => subst e; rw [h, List.take_nil, ← h]
    next => rfl
  next h => simp [h]

@[simp] theorem State.stopEngine_bay (s : State) (b c : BayId) :
    (s.stopEngine b).bay c = if b = c then { s.bay b with engine := (s.bay b).engine.cleared } else s.bay c := by
  unfold State.stopEngine
  simp

@[simp] theorem State.startRequest_bay (s : State) (b c : BayId) :
    (s.startRequest b).bay c = if b = c then (s.bay b).startRequest else s.bay c := by
  unfold State.startRequest Bay.startRequest
  cases (s.bay b).list with
  | nil => by_cases hb : b = c <;> simp [hb]
  | cons head rest =>
    cases hs : head.snap with
    | none => by_cases hb : b = c <;> simp [hb, hs]
    | some snap =>
      simp only [hs]
      split
      next hc => simp only [State.updEngine_bay, State.setList_bay]; split <;> simp_all
      next hc => split <;> simp_all

@[simp] theorem State.startProfileRead_bay (s : State) (b c : BayId) :
    (s.startProfileRead b).bay c = if b = c then (s.bay b).profiled else s.bay c := by
  unfold State.startProfileRead Bay.profiled
  simp

@[simp] theorem State.takeMrdy_bay (s : State) (b c : BayId) :
    (s.takeMrdy b).bay c =
      if b = c then
        Bay.profiled { s.bay b with life := { (s.bay b).life with mrdySeen := true, timer := none } }
      else s.bay c := by
  unfold State.takeMrdy
  simp only [State.startProfileRead_bay, State.updLife_bay]
  split <;> simp_all

@[simp] theorem State.enterReady_bay (s : State) (b c : BayId) (p : ProfileSummary) :
    (s.enterReady b p).bay c = if b = c then (s.bay b).readied p else s.bay c := by
  unfold State.enterReady Bay.readied
  simp only [State.raise_bay, State.updEngine_bay, State.updLife_bay]
  split <;> simp_all

@[simp] theorem State.enterFaulted_bay (s : State) (b c : BayId) (r : FaultReason) :
    (s.enterFaulted b r).bay c = if b = c then (s.bay b).faulted r else s.bay c := by
  unfold State.enterFaulted Bay.faulted
  simp only [State.raise_bay, State.updLife_bay, State.purge_bay, State.stopEngine_bay]
  split <;> simp_all

@[simp] theorem State.completeQuiesce_bay (s : State) (b c : BayId) :
    (s.completeQuiesce b).bay c = if b = c then (s.bay b).quiesceDone else s.bay c := by
  unfold State.completeQuiesce Bay.quiesceDone
  simp

@[simp] theorem State.completeIfEmpty_bay (s : State) (b c : BayId) :
    (s.completeIfEmpty b).bay c = if b = c then (s.bay b).quiesceIfEmpty else s.bay c := by
  unfold State.completeIfEmpty Bay.quiesceIfEmpty
  split <;> simp_all

@[simp] theorem State.quiesceAtOnce_bay (s : State) (b c : BayId) :
    (s.quiesceAtOnce b).bay c =
      if b = c then { s.bay b with engine := (s.bay b).engine.cleared, life := (s.bay b).life.quiescedNow }
      else s.bay c := by
  unfold State.quiesceAtOnce
  simp only [State.raise_bay, State.updLife_bay, State.stopEngine_bay]
  split <;> simp_all

@[simp] theorem State.abandon_bay (s : State) (b c : BayId) :
    (s.abandon b).bay c = if b = c then (s.bay b).abandoned else s.bay c := by
  unfold State.abandon Bay.abandoned
  split <;> (simp only [State.purgeBehindHead_bay, State.updEngine_bay, State.purge_bay, State.stopEngine_bay]
             split <;> simp_all)

@[simp] theorem State.enterQuiescing_bay (s : State) (b c : BayId) (mode : QuiesceMode) :
    (s.enterQuiescing b mode).bay c = if b = c then (s.bay b).quiescing mode else s.bay c := by
  unfold State.enterQuiescing Bay.quiescing
  cases mode <;> (simp only [State.completeIfEmpty_bay, State.abandon_bay, State.updLife_bay]; split <;> simp_all)

@[simp] theorem State.convertDrain_bay (s : State) (b c : BayId) :
    (s.convertDrain b).bay c =
      if b = c then
        (Bay.abandoned { s.bay b with life := { (s.bay b).life with quiesceMode := some .abandon } }).quiesceIfEmpty
      else s.bay c := by
  unfold State.convertDrain
  simp only [State.completeIfEmpty_bay, State.abandon_bay, State.updLife_bay]
  split <;> simp_all

@[simp] theorem State.removeModule_bay (s : State) (b c : BayId) :
    (s.removeModule b).bay c = if b = c then (s.bay b).emptied.detect else s.bay c := by
  unfold State.removeModule Bay.emptied
  simp only [State.setBay_bay, State.raise_bay, State.updLife_bay, State.removalWindowClear_bay, State.purge_bay,
    State.stopEngine_bay]
  split <;> simp_all

/-! ## What may be taken ahead of a report or of an admission -/

@[simp] theorem State.takeRemoval_bay (s : State) (b c : BayId) :
    (s.takeRemoval b).bay c =
      if b = c ∧ (s.bay b).life.state.filtered = true ∧ (s.bay b).life.filter = .timing then (s.bay b).emptied.detect
      else s.bay c := by
  by_cases hb : b = c
  · subst hb
    unfold State.takeRemoval
    split <;> simp_all
  · unfold State.takeRemoval
    split <;> simp [hb]

@[simp] theorem State.takePgoodLoss_bay (s : State) (b c : BayId) :
    (s.takePgoodLoss b).bay c =
      if b = c then
        if (s.bay b).life.watchesPgood then Bay.faulted { s.bay b with pgood := false } .powerFail
        else { s.bay b with pgood := false }
      else s.bay c := by
  unfold State.takePgoodLoss
  split <;> split <;> simp_all

@[simp] theorem State.takeQuiesceCompletion_bay (s : State) (b c : BayId) :
    (s.takeQuiesceCompletion b).bay c =
      if b = c ∧ (s.bay b).life.state = .quiescing ∧ (s.bay b).list = [] then (s.bay b).quiesceDone else s.bay c := by
  by_cases hb : b = c
  · subst hb
    unfold State.takeQuiesceCompletion
    split <;> simp_all
  · unfold State.takeQuiesceCompletion
    split <;> simp [hb]

@[simp] theorem State.reportUnresponsive_bay (s : State) (b c : BayId) :
    (s.reportUnresponsive b).bay c =
      if b = c ∧ (s.bay b).life.state.served = true then (s.bay b).faulted .unresponsive else s.bay c := by
  unfold State.reportUnresponsive
  split <;> simp_all

/-- An overtaking removal touches no other bay. -/
theorem State.overtake_other (s : State) {b c : BayId} (m : Meeting) (h : c ≠ b) : (s.overtake b m).bay c = s.bay c := by
  cases m <;> simp only [State.overtake]
  rw [State.takeRemoval_bay, if_neg (fun k => h k.1.symm)]

@[simp] theorem State.linkLossAtPools_bay (s : State) (c : BayId) :
    s.linkLossAtPools.bay c = (s.bay c).afterLinkLoss (s.lostRequests c) := by
  unfold State.linkLossAtPools State.bay
  simp

@[simp] theorem State.departUp_bay (s : State) (c : BayId) :
    s.departUp.bay c = (s.bay c).afterLinkLoss (s.lostRequests c) := by
  unfold State.departUp
  simp

@[simp] theorem State.resetAll_bay (s : State) (epoch : Byte) (straps : BitVec 4) (c : BayId) :
    (s.resetAll epoch straps).bay c = (s.bay c).afterReset := by
  unfold State.resetAll State.bay
  simp

end Sys2Proof.Machine
end

