-- ==== Sys2Proof/Laws/Intake.lean ====
section
/-! SUPPORT. An append and the event that it meets (R36, R47): what the event can do, what a departure from UP makes of the
entry appended, and everything an append can do. -/

namespace Sys2Proof.Machine

/-- What an event between an append and a start can do: nothing, or what a command of the link does in a state that meets
its condition (R47). -/
theorem State.takeAfterAppend_induction {P : State → Prop} (s : State) (m : Meeting) (nothing : P s)
    (enterDown : s.link.state = .training → P (s.setLink s.link.enterDown))
    (leaveUp : s.link.state = .up → P s.leaveUp)
    (replayAgain : s.link.state = .up → s.link.replay ≠ [] → s.link.attempts < 3 → P (s.setLink s.link.replayAgain))
    (exhaustion : s.link.state = .up → P (s.setLink s.link.countExhaustion).leaveUp) : P (s.takeAfterAppend m) := by
  cases m
  case nothing => exact nothing
  case removal => exact nothing
  case signalLoss =>
    simp only [State.takeAfterAppend, State.takeSignalLoss]
    split
    next => exact nothing
    next c => exact enterDown c
    next c => exact leaveUp c
  case silenceExpiry =>
    simp only [State.takeAfterAppend, State.takeSilenceExpiry]
    split
    next c => exact leaveUp c.1
    next => exact nothing
  case replayExpiry =>
    simp only [State.takeAfterAppend, State.takeReplayExpiry]
    split
    next c =>
      split
      next d => exact replayAgain c.1 c.2.2 d
      next => exact exhaustion c.1
    next => exact nothing

/-- The bays after an append: the event that it meets, and then the start of the bay's head. -/
theorem State.append_bay (s : State) (b c : BayId) (e : Entry) (m : Meeting) :
    (s.append b e m).bay c =
      if b = c then (((s.setList b ((s.bay b).list ++ [e])).takeAfterAppend m).bay b).startRequest
      else ((s.setList b ((s.bay b).list ++ [e])).takeAfterAppend m).bay c := by
  unfold State.append
  rw [State.startRequest_bay]

/-- The departure from UP with a store appended leaves the store in its list (R44). -/
theorem State.departUp_appended_store (s : State) (b : BayId) (e : StoreEntry) :
    (s.setList b ((s.bay b).list ++ [.store e])).departUp =
      s.departUp.setList b ((s.departUp.bay b).list ++ [.store e]) := by
  apply State.ext_bay
  case bay =>
    intro c
    by_cases h : b = c
    · subst h
      simp [Bay.afterLinkLoss, Entry.afterLinkLoss, State.lostRequests, List.countP_append, Entry.isLost]
    · simp [h, State.lostRequests]
  all_goals simp [State.departUp, State.linkLossAtPools]

/-- The departure from UP with a QUEUED request appended frees it, and counts it unanswered (R44, R46, R47). -/
theorem State.departUp_appended_request (s : State) (b : BayId) (e : OpenEntry) (queued : e.state = .queued) :
    (s.setList b ((s.bay b).list ++ [.request e])).departUp =
      s.departUp.updLife b (fun l =>
        { l with unanswered := min 65535 ((s.bay b).life.unanswered + (1 + s.lostRequests b)) }) := by
  apply State.ext_bay
  case bay =>
    intro c
    by_cases h : b = c
    · subst h
      simp [queued, Bay.afterLinkLoss, Entry.afterLinkLoss, State.lostRequests, List.countP_append, Entry.isLost,
        Nat.add_comm 1, Nat.add_right_comm]
    · simp [h, State.lostRequests]
  all_goals simp [State.departUp, State.linkLossAtPools]
/-- The deferred reset depends on the link epoch, the straps, the queue and the lines of the bays alone (R75, R175). -/
theorem State.deferredReset_congr {s t : State} (epoch : t.link.epoch = s.link.epoch) (straps : t.straps = s.straps)
    (pending : t.pending = s.pending)
    (lines : ∀ c, (t.bay c).presA = (s.bay c).presA ∧ (t.bay c).presB = (s.bay c).presB ∧
      (t.bay c).pgood = (s.bay c).pgood) : t.deferredReset = s.deferredReset := by
  unfold State.deferredReset
  rw [epoch, straps]
  apply State.ext_bay
  case bay =>
    intro c
    simp only [State.resetAll_bay, Bay.afterReset, lines c]
  case pending => exact pending
  all_goals rfl

/-- The deferred reset leaves no request to start (R49). -/
theorem State.deferredReset_startRequest (s : State) (b : BayId) : s.deferredReset.startRequest b = s.deferredReset := by
  have empty : (s.deferredReset.bay b).list = [] := by
    unfold State.deferredReset
    rw [State.resetAll_bay]
    unfold Bay.afterReset Bay.detect
    split <;> rfl
  unfold State.startRequest
  rw [empty]

/-- Everything that an append of a QUEUED entry can do: the plain append, in the state or behind a change of the link unit;
the deferred reset; and, at a departure from UP, the append of a store behind the departure, or the departure with the
request counted unanswered (R36, R44, R47, R51, R174, R187). -/
theorem State.append_induction {P : State → Prop} (s : State) (b : BayId) (e : Entry) (m : Meeting)
    (queued : e.isQueued = true) (plain : P (s.append b e .nothing))
    (enterDown : s.link.state = .training → P ((s.setLink s.link.enterDown).append b e .nothing))
    (replayAgain : s.link.state = .up → s.link.replay ≠ [] → s.link.attempts < 3 →
      P ((s.setLink s.link.replayAgain).append b e .nothing))
    (reset : P s.deferredReset)
    (lostStore : ∀ l x, s.link.state = .up → l = s.link ∨ l = s.link.countExhaustion → e = .store x →
      P ((s.setLink l).departUp.append b e .nothing))
    (lostRequest : ∀ l x, s.link.state = .up → l = s.link ∨ l = s.link.countExhaustion → e = .request x →
      P (((s.setLink l).departUp.updLife b (fun y =>
        { y with unanswered := min 65535 ((s.bay b).life.unanswered + (1 + s.lostRequests b)) })).startRequest b)) :
    P (s.append b e m) := by
  have leave : ∀ l, s.link.state = .up → l = s.link ∨ l = s.link.countExhaustion →
      P (((s.setLink l).setList b (((s.setLink l).bay b).list ++ [e])).leaveUp.startRequest b) := by
    intro l up hl
    have epoch : l.epoch = s.link.epoch := by rcases hl with rfl | rfl <;> rfl
    unfold State.leaveUp
    split
    next =>
      rw [State.deferredReset_startRequest]
      convert reset using 1
      refine State.deferredReset_congr epoch rfl rfl (fun c => ?_)
      rw [State.departUp_bay, State.setList_bay]
      split
      next h => subst h; exact ⟨rfl, rfl, rfl⟩
      next => exact ⟨rfl, rfl, rfl⟩
    next =>
      cases e with
      | store x =>
        rw [State.departUp_appended_store]
        exact lostStore l x up hl rfl
      | request x =>
        rw [State.departUp_appended_request _ _ _ (by simpa [Entry.isQueued] using queued)]
        exact lostRequest l x up hl rfl
  unfold State.append
  exact State.takeAfterAppend_induction (P := fun t => P (t.startRequest b)) _ m plain enterDown
    (fun up => leave s.link up (.inl rfl)) replayAgain (fun up => leave s.link.countExhaustion up (.inr rfl))

/-! ## In the words of the statements -/

/-- The event that an append meets is the effect of its command. -/
theorem exec_commandAtAppend {m : Meeting} {j : Instr} (h : commandAtAppend m = some j) (s : State) :
    exec j s = .next (s.takeAfterAppend m) := by
  cases m <;> first
    | (injection h with h; subst h; rfl)
    | (injection h)

/-- An append that meets no event of the link goes on to the start at once. -/
theorem State.takeAfterAppend_nothing {m : Meeting} (h : commandAtAppend m = none) (s : State) :
    s.takeAfterAppend m = s := by
  cases m <;> first
    | rfl
    | (injection h)

/-- A busy engine, and an engine with an empty list, start nothing (R51). -/
theorem State.startRequest_nothing {s : State} {b : BayId} (h : (s.bay b).engine.state ≠ .idle ∨ (s.bay b).list = []) :
    s.startRequest b = s := by
  unfold State.startRequest
  split
  · rfl
  next list =>
    split
    · rfl
    · rw [if_neg]
      rintro ⟨idle, _⟩
      rcases h with h | h
      · exact h idle
      · rw [list] at h
        cases h

/-- An idle engine of a READY bay starts the QUEUED entry that is its whole list (R51, R52, R55). -/
theorem State.startRequest_started {s : State} {b : BayId} {e : Entry} {snap : Snapshot} (snapshot : e.snap = some snap)
    (queued : e.isQueued = true) (fresh : e.bytesDone = 0) (idle : (s.bay b).engine.state = .idle)
    (work : (s.bay b).engine.work = .none) (list : (s.bay b).list = [e]) (ready : (s.bay b).life.state = .ready) :
    s.startRequest b = s.setBay b ((s.bay b).started e snap) := by
  unfold State.startRequest
  simp only [list, snapshot]
  rw [if_pos ⟨idle, work, queued, by rw [ready]; rfl⟩]
  apply State.eq_setBay <;> try rfl
  intro c
  simp only [State.updEngine_bay, State.setList_bay, if_true]
  split
  · simp [Engine.started, Bay.started, Entry.nextCycle, fresh]
  · rfl

end Sys2Proof.Machine
end

