-- ==== Sys2Proof/Laws/Notices.lean ====
section
/-! SUPPORT. What each operation of the Notice Unit does: one lemma for the event records, and one for the rest, per
operation; and folds of an operation over events. -/

namespace Sys2Proof.Machine

/-! ## One record of 45 -/

@[simp] theorem BayRecords.get_set (r : BayRecords) (k j : BayKind) (e : EventRecord) :
    (r.set k e).get j = if k = j then e else r.get j := by
  cases k <;> cases j <;> rfl

@[simp] theorem BridgeRecords.get_set (r : BridgeRecords) (k j : BridgeKind) (e : EventRecord) :
    (r.set k e).get j = if k = j then e else r.get j := by
  cases k <;> cases j <;> rfl

@[simp] theorem NoticeUnit.setRecord_record (n : NoticeUnit) (e x : EventId) (r : EventRecord) :
    (n.setRecord e r).record x = if e = x then r else n.record x := by
  cases e <;> cases x <;> simp [NoticeUnit.setRecord, NoticeUnit.record]
  split <;> simp_all

@[simp] theorem NoticeUnit.setRecord_rest (n : NoticeUnit) (e : EventId) (r : EventRecord) :
    (n.setRecord e r).queue = n.queue ∧ (n.setRecord e r).nextSeq = n.nextSeq ∧
    (n.setRecord e r).firstUp = n.firstUp := by
  cases e <;> exact ⟨rfl, rfl, rfl⟩

/-! ## The events of a source -/

theorem EventId.all_nodup : EventId.all.Nodup := by decide

theorem EventId.mem_all (e : EventId) : e ∈ EventId.all := by
  rcases e with ⟨b, k⟩ | k
  · cases b <;> cases k <;> decide
  · cases k <;> decide

theorem Source.events_nodup (s : Source) : s.events.Nodup := by
  cases s with
  | bay b => cases b <;> decide
  | bridge => decide

theorem Source.mem_events (s : Source) (e : EventId) : e ∈ s.events ↔ e.source = s := by
  rcases e with ⟨b, k⟩ | k <;> cases s with
  | bay c =>
    first
    | (cases b <;> cases k <;> cases c <;> decide)
    | (cases k <;> cases c <;> decide)
  | bridge =>
    first
    | (cases b <;> cases k <;> decide)
    | (cases k <;> decide)

theorem EventId.mask_ne_zero (e : EventId) : e.mask ≠ 0#8 := by
  rcases e with ⟨b, k⟩ | k
  · cases b <;> cases k <;> decide
  · cases k <;> decide

theorem EventId.mask_own (e : EventId) : e.mask &&& ~~~e.source.kinds = 0#8 := by
  rcases e with ⟨b, k⟩ | k
  · cases b <;> cases k <;> decide
  · cases k <;> decide

/-! ## The operations -/

@[simp] theorem NoticeUnit.announce_record (n : NoticeUnit) (e x : EventId) :
    (n.announce e).record x = if e = x then { n.record e with announced := true } else n.record x := by
  have : (n.announce e).record x = (n.setRecord e { n.record e with announced := true }).record x := by
    cases x <;> rfl
  simp [this]

@[simp] theorem NoticeUnit.announce_rest (n : NoticeUnit) (e : EventId) :
    (n.announce e).queue = addToQueue e n.queue ∧ (n.announce e).nextSeq = n.nextSeq ∧
    (n.announce e).firstUp = n.firstUp := by
  unfold NoticeUnit.announce
  simp

theorem NoticeUnit.raise_record (n : NoticeUnit) (e x : EventId) (r : Option Reason) :
    (n.raise e r).record x =
      if e = x then
        if (n.record e).flag then { n.record e with count := satSucc 255 (n.record e).count }
        else { flag := true, count := 1, firstReason := r, announced := (n.record e).enable,
               enable := (n.record e).enable }
      else n.record x := by
  unfold NoticeUnit.raise
  dsimp only
  split
  next => simp
  next =>
    split
    next => simp; split <;> simp_all
    next => simp; split <;> simp_all

theorem NoticeUnit.raise_queue (n : NoticeUnit) (e : EventId) (r : Option Reason) :
    (n.raise e r).queue =
      if (n.record e).flag = false ∧ (n.record e).enable = true then addToQueue e n.queue else n.queue := by
  unfold NoticeUnit.raise
  dsimp only
  split
  next h => simp [h]
  next h =>
    split
    next h2 => rw [if_pos ⟨by simpa using h, h2⟩]; simp
    next h2 => rw [if_neg (by simp_all)]; simp

@[simp] theorem NoticeUnit.raise_rest (n : NoticeUnit) (e : EventId) (r : Option Reason) :
    (n.raise e r).nextSeq = n.nextSeq ∧ (n.raise e r).firstUp = n.firstUp := by
  unfold NoticeUnit.raise
  dsimp only
  (repeat' split) <;> simp

theorem NoticeUnit.enableOne_record (n : NoticeUnit) (e x : EventId) (on : Bool) :
    (n.enableOne e on).record x =
      if e = x then
        { n.record e with
          enable := on,
          announced := (n.record e).announced || (on && !(n.record e).enable && (n.record e).flag) }
      else n.record x := by
  unfold NoticeUnit.enableOne
  dsimp only
  split
  next h =>
    simp only [NoticeUnit.announce_record, NoticeUnit.setRecord_record]
    split
    · simp at h
      simp [h]
    · simp
  next h =>
    simp only [NoticeUnit.setRecord_record]
    split
    · cases ha : (n.record e).announced <;> simp_all
    · rfl

/-- A kind that is not to be announced leaves the queue as it was. -/
theorem NoticeUnit.enableOne_queue (n : NoticeUnit) (e : EventId) (on : Bool)
    (h : on = true → (n.record e).enable = false → (n.record e).flag = true → (n.record e).announced = true) :
    (n.enableOne e on).queue = n.queue := by
  unfold NoticeUnit.enableOne
  dsimp only
  rw [if_neg]
  · simp
  · simp
    exact fun a b c => h a b c

@[simp] theorem NoticeUnit.enableOne_rest (n : NoticeUnit) (e : EventId) (on : Bool) :
    (n.enableOne e on).nextSeq = n.nextSeq ∧ (n.enableOne e on).firstUp = n.firstUp := by
  unfold NoticeUnit.enableOne
  dsimp only
  split <;> simp

@[simp] theorem NoticeUnit.clearOne_record (n : NoticeUnit) (e x : EventId) :
    (n.clearOne e).record x =
      if e = x then { n.record e with flag := false, count := 0, firstReason := none, announced := false }
      else n.record x := by
  have : (n.clearOne e).record x =
      (n.setRecord e
        { n.record e with flag := false, count := 0, firstReason := none, announced := false }).record x := by
    cases x <;> rfl
  simp [this]

@[simp] theorem NoticeUnit.clearOne_rest (n : NoticeUnit) (e : EventId) :
    (n.clearOne e).queue = retractFromQueue e n.queue ∧ (n.clearOne e).nextSeq = n.nextSeq ∧
    (n.clearOne e).firstUp = n.firstUp := by
  unfold NoticeUnit.clearOne
  simp

/-! ## Folds over events -/

/-- An operation that changes one record by a rule changes, over a list of different events, exactly their records. -/
theorem fold_record (f : NoticeUnit → EventId → NoticeUnit) (rule : EventId → EventRecord → EventRecord)
    (h : ∀ n e x, (f n e).record x = if e = x then rule e (n.record e) else n.record x) (l : List EventId)
    (nodup : l.Nodup) (n : NoticeUnit) (x : EventId) :
    (l.foldl f n).record x = if x ∈ l then rule x (n.record x) else n.record x := by
  induction l generalizing n with
  | nil => simp
  | cons e l ih =>
    have := (List.nodup_cons.1 nodup).1
    rw [List.foldl_cons, ih (List.nodup_cons.1 nodup).2, h]
    by_cases hx : e = x
    · subst hx
      simp [this]
    · simp [hx, Ne.symm hx]

/-- What one operation keeps, a fold of it keeps. -/
theorem fold_keeps {β : Type} (f : NoticeUnit → EventId → NoticeUnit) (part : NoticeUnit → β)
    (h : ∀ n e, part (f n e) = part n) (l : List EventId) (n : NoticeUnit) : part (l.foldl f n) = part n := by
  induction l generalizing n with
  | nil => rfl
  | cons e l ih => rw [List.foldl_cons, ih, h]

/-! ## The queue -/

theorem addToQueue_absent (e : EventId) (q : List NoticeRecord) (h : ∀ r ∈ q, r.source ≠ e.source) :
    addToQueue e q = q ++ [{ source := e.source, kinds := e.mask }] := by
  induction q with
  | nil => rfl
  | cons a q ih =>
    simp only [addToQueue]
    rw [if_neg (h a (by simp)), ih (fun r hr => h r (by simp [hr]))]
    rfl

theorem addToQueue_present (e : EventId) (p : List NoticeRecord) (r : NoticeRecord) (a : List NoticeRecord)
    (h : ∀ x ∈ p, x.source ≠ e.source) (hr : r.source = e.source) :
    addToQueue e (p ++ r :: a) = p ++ { r with kinds := r.kinds ||| e.mask } :: a := by
  induction p with
  | nil => simp [addToQueue, hr]
  | cons x p ih =>
    simp only [List.cons_append, addToQueue]
    rw [if_neg (h x (by simp)), ih (fun r hr => h r (by simp [hr]))]

theorem addToQueue_sources (e : EventId) (q : List NoticeRecord) :
    (addToQueue e q).map NoticeRecord.source =
      if e.source ∈ q.map NoticeRecord.source then q.map NoticeRecord.source
      else q.map NoticeRecord.source ++ [e.source] := by
  induction q with
  | nil => simp [addToQueue]
  | cons r rest ih =>
    simp only [addToQueue]
    by_cases h : r.source = e.source
    · simp [h]
    · simp only [h, if_false, List.map_cons, ih, List.mem_cons, Ne.symm h, false_or]
      split <;> simp

theorem addToQueue_ne_nil (e : EventId) (q : List NoticeRecord) : addToQueue e q ≠ [] := by
  cases q <;> simp only [addToQueue]
  · simp
  · split <;> simp

end Sys2Proof.Machine
end

