-- ==== Sys2Proof/Laws/Pools.lean ====
section
/-! SUPPORT. What becomes of entries: the answers, drops and credits of an entry taken off its list, of a purge, and of the
stop of an engine; the end of a request, and the entry to FAULTED. Each says everything its operation can do. -/

namespace Sys2Proof.Machine

/-! ## One entry, and several -/

theorem State.settleEntry_spec (s : State) (b : BayId) (st : AnswerStatus) (e : Entry) :
    EntryEnded s (s.settleEntry b st e) b st e := by
  cases e with
  | store e =>
    simp only [EntryEnded, State.settleEntry]
    refine ⟨?_, ?_, fun h => ?_, fun h => ?_⟩
    · split <;> simp
    · split
      · rfl
      · unfold State.freed State.isUp
        simp
        split <;> rfl
    · simp [h]
    · simp [h, State.dropStore, State.raise]
  | request e =>
    simp only [EntryEnded, State.settleEntry]
    refine ⟨?_, fun h => ?_, fun h => ?_⟩
    · split <;> simp
    · simp [h]
    · simp [h, State.joinAnswers]

theorem State.settleEntries_spec (b : BayId) (st : AnswerStatus) (notOk : st ≠ .ok) (l : List Entry) (s : State) :
    PurgeCredits s (s.settleEntries b st l) l ∧
    (s.settleEntries b st l).answerOrder = s.answerOrder ++ purgeAnswers st l ∧
    (s.settleEntries b st l).notice = s.notice.purgeRaises b st l := by
  induction l generalizing s with
  | nil => simp [State.settleEntries, PurgeCredits, purgeAnswers, NoticeUnit.purgeRaises]
  | cons e l ih =>
    have h1 : s.settleEntries b st (e :: l) = (s.settleEntry b st e).settleEntries b st l := rfl
    obtain ⟨c, a, n⟩ := ih (s.settleEntry b st e)
    rw [h1]
    have hlink : (s.settleEntry b st e).link = s.link := by simp
    refine ⟨⟨fun h => ?_, fun h => ?_⟩, ?_, ?_⟩
    · rw [c.1 (by rw [hlink]; exact h)]
      cases e with
      | store e =>
        simp only [State.settleEntry, if_neg notOk, State.freed, State.isUp, State.dropStore, State.raise]
        simp [h]
      | request e =>
        simp only [State.settleEntry]
        split <;> simp [State.freed, State.isUp, h, State.joinAnswers]
    · obtain ⟨c1, c2, c3, c4, c5, c6⟩ := c.2 (by rw [hlink]; exact h)
      rw [c1, c2, c3, c4, c5, c6]
      cases e with
      | store e =>
        simp only [State.settleEntry, if_neg notOk, State.freed, State.isUp, State.dropStore, State.raise]
        simp [h, Ledger.returnOne, Ledger.set, Ledger.get, Ledger.pendingTotal, Entry.isStore, Entry.isOrphan,
          List.countP_cons, Nat.add_assoc, Nat.add_comm 1]
        rw [Bool.eq_iff_iff]
        simp
      | request e =>
        simp only [State.settleEntry]
        split <;> simp_all [State.freed, State.isUp, State.joinAnswers, Ledger.returnOne, Ledger.set, Ledger.get,
          Ledger.pendingTotal, Entry.isStore, Entry.isOrphan, Nat.add_assoc, Nat.add_comm 1]
        rw [Bool.eq_iff_iff]
        simp
    · rw [a]
      cases e with
      | store e => simp [State.settleEntry, if_neg notOk, purgeAnswers]
      | request e =>
        simp only [State.settleEntry]
        split <;> simp_all [State.joinAnswers, purgeAnswers]
    · rw [n]
      cases e with
      | store e =>
        simp [State.settleEntry, if_neg notOk, State.dropStore, State.raise, NoticeUnit.purgeRaises]
        rfl
      | request e =>
        simp only [State.settleEntry]
        split <;> simp_all [State.joinAnswers, NoticeUnit.purgeRaises, Entry.isStore]

/-! ## The bus and the stop of an engine -/

theorem State.releaseBus_spec (s : State) (b : BayId) : BusReleased s (s.releaseBus b) b := by
  unfold State.releaseBus
  split
  next c h =>
    split
    next hc =>
      refine ⟨rfl, by simp, fun d hd hs => ?_⟩
      rw [h] at hs
      injection hs with hs
      subst hs
      exact absurd hc hd
    next hc =>
      refine ⟨rfl, fun d hd => ?_, fun d _ hs => hs⟩
      rw [h] at hd
      injection hd with hd
      exact hd ▸ hc
  next h => exact ⟨rfl, by simp [h], fun d _ hs => hs⟩

/-- The bus of a bay's own cycle is freed. -/
theorem State.releaseBus_own {s : State} {b : BayId} {d : BusCycle} (h : s.bus.driven = some d) (own : d.bay = b) :
    s.releaseBus b = s.setBus { s.bus with driven := none } := by
  simp [State.releaseBus, h, own]

/-- `BusReleased` speaks of the buses alone. -/
theorem BusReleased.congr {s s' t t' : State} {b : BayId} (h : BusReleased s t b) (h1 : s'.bus = s.bus)
    (h2 : t'.bus = t.bus) : BusReleased s' t' b := by
  unfold BusReleased
  rw [h1, h2]
  exact h

/-- `PurgeCredits` speaks of the ledgers and of the first state's link alone. -/
theorem PurgeCredits.congr {s s' t t' : State} {l : List Entry} (h : PurgeCredits s t l) (h1 : s'.ledger = s.ledger)
    (h2 : t'.ledger = t.ledger) (h3 : s'.link = s.link) : PurgeCredits s' t' l := by
  unfold PurgeCredits
  rw [h1, h2, h3]
  exact h

/-- A bay's engine stops and its list is purged. -/
theorem State.stopAndPurge_spec (s : State) (b : BayId) (st : AnswerStatus) (notOk : st ≠ .ok) :
    BusReleased s ((s.stopEngine b).purge b st) b ∧
    PurgeCredits s ((s.stopEngine b).purge b st) (s.bay b).list ∧
    ((s.stopEngine b).purge b st).answerOrder = s.answerOrder ++ purgeAnswers st (s.bay b).list ∧
    ((s.stopEngine b).purge b st).notice = s.notice.purgeRaises b st (s.bay b).list := by
  have hl : ((s.stopEngine b).bay b).list = (s.bay b).list := by simp
  obtain ⟨c, a, n⟩ := State.settleEntries_spec b st notOk (s.bay b).list (s.stopEngine b)
  have ht : (s.stopEngine b).purge b st =
      ((s.stopEngine b).settleEntries b st (s.bay b).list).setList b [] := by
    unfold State.purge
    rw [hl]
  rw [ht]
  refine ⟨(s.releaseBus_spec b).congr rfl (by simp [State.stopEngine]), c.congr (by simp) (by simp) (by simp), ?_, ?_⟩
  · simp [a]
  · simp [n]

theorem State.enterFaulted_spec (s : State) (b : BayId) (r : FaultReason) :
    BayFaulted s (s.enterFaulted b r) b r ∧ ((s.enterFaulted b r).bay b).pgood = (s.bay b).pgood := by
  obtain ⟨c1, c2, c3, c4⟩ := s.stopAndPurge_spec b .bayFault (by decide)
  have hb := State.enterFaulted_bay s b b r
  rw [if_pos rfl] at hb
  refine ⟨⟨?_, ?_, ⟨?_, ?_, ?_, ?_, ?_, ?_⟩, ?_, ?_, ?_, c1.congr rfl (by simp [State.enterFaulted]),
    c2.congr rfl (by simp [State.enterFaulted]) rfl, ?_, ?_, ?_, ?_, ?_, ?_, ?_, ?_⟩, ?_⟩
  iterate 11 (· rw [hb]; rfl)
  · simp only [State.enterFaulted]
    simp [c3]
  · simp only [State.enterFaulted, State.raise, State.setNotice_notice, State.updLife_notice, c4]
  · intro c hc
    simp [Ne.symm hc]
  iterate 5 (· simp)
  · rw [hb]; rfl

/-! ## The end of a request -/

/-- The bay's cycle ends. -/
theorem exec_endsCycle {s : State} {i : Instr} {b : BayId} {c : Cycle} {r : CycleRun} {error : Bool}
    {lanes : BitVec 16} (running : (s.bay b).engine.running = some (c, r)) (h : EndsCycle i b r error lanes) :
    exec i s = .next (s.endCycle b c error lanes) := by
  rcases h with ⟨rfl, h⟩ | ⟨rfl, h⟩
  · simp [exec, execCycleMinLengthExpiry, running, h]
  · simp [exec, execWaitRelease, running, h]

/-- `EntryEnded` speaks of the answers, the ledger and the notices, and of the first state's link. -/
theorem EntryEnded.congr {s s' t t' : State} {b : BayId} {st : AnswerStatus} {e : Entry} (h : EntryEnded s t b st e)
    (a1 : t'.answerOrder = t.answerOrder) (a2 : t'.ledger = t.ledger) (a3 : t'.notice = t.notice)
    (b1 : s'.answerOrder = s.answerOrder) (b2 : s'.ledger = s.ledger) (b3 : s'.notice = s.notice)
    (b4 : s'.link = s.link) : EntryEnded s' t' b st e := by
  have hf : ∀ p, (s'.freed p).ledger = (s.freed p).ledger := by
    intro p
    unfold State.freed State.isUp
    rw [b4]
    split <;> simp [b2]
  cases e <;> simp_all [EntryEnded]

/-- The report of the end of the head of a bay's list: its entry, the engine, the streak, and the rest as it was. -/
theorem State.finishRequest_spec {s : State} {b : BayId} {e : Entry} {rest : List Entry} (st : AnswerStatus)
    (list : (s.bay b).list = e :: rest) :
    EntryEnded s (s.finishRequest b st) b st e ∧
    (s.finishRequest b st).bay b =
      { s.bay b with
        list := rest,
        engine := { (s.bay b).engine.cleared with
          timeoutStreak := streakAfter (s.bay b).engine.timeoutStreak st } } ∧
    (s.finishRequest b st).bus = s.bus ∧ ∀ c, c ≠ b → (s.finishRequest b st).bay c = s.bay c := by
  have ht : s.finishRequest b st =
      ((s.settleEntry b st e).setList b rest).updEngine b (fun x =>
        { x.cleared with timeoutStreak := streakAfter x.timeoutStreak st }) := by
    unfold State.finishRequest State.endHead
    simp only [list]
  refine ⟨?_, ?_, by simp, fun c hc => ?_⟩
  · exact (s.settleEntry_spec b st e).congr (by rw [ht]; simp) (by rw [ht]; simp) (by rw [ht]; simp) rfl rfl rfl rfl
  · simp [Bay.finished, list]
  · rw [State.finishRequest_bay, if_neg (Ne.symm hc)]

/-- The end of the head of a bay's list, with the start of the next, where the bus carries no cycle of the bay. -/
theorem State.endRequest_spec {s : State} {b : BayId} {e : Entry} {rest : List Entry} (st : AnswerStatus)
    (list : (s.bay b).list = e :: rest) (queued : ∀ x ∈ rest, x.isQueued = true ∧ x.snap.isSome = true)
    (served : (s.bay b).life.state.served = true) :
    EntryEnded s (s.endRequest b st) b st e ∧
    NextHeadServed s (s.endRequest b st) b (streakAfter (s.bay b).engine.timeoutStreak st) rest ∧
    ((s.endRequest b st).bay b).life = (s.bay b).life ∧ (s.bay b).SameLines ((s.endRequest b st).bay b) ∧
    (s.endRequest b st).bus = s.bus ∧ ∀ c, c ≠ b → (s.endRequest b st).bay c = s.bay c := by
  obtain ⟨h1, h2, h3, h4⟩ := State.finishRequest_spec st list
  have ht : s.endRequest b st = (s.finishRequest b st).startRequest b := rfl
  have hb : (s.endRequest b st).bay b = Bay.startRequest
      { s.bay b with
        list := rest,
        engine := { (s.bay b).engine.cleared with
          timeoutStreak := streakAfter (s.bay b).engine.timeoutStreak st } } := by
    rw [ht, State.startRequest_bay, if_pos rfl, h2]
  refine ⟨?_, ?_, ?_, ?_, ?_, fun c hc => ?_⟩
  · exact h1.congr (by rw [ht]; simp) (by rw [ht]; simp) (by rw [ht]; simp) rfl rfl rfl rfl
  · refine ⟨fun hr => ?_, fun n behind p hr hp => ?_⟩
    · rw [hb, hr]
      simp [Bay.startRequest, Engine.cleared, Engine.WithoutWork]
    · subst hr
      have := queued n (by simp)
      rw [hb]
      simp [Bay.startRequest, Engine.cleared, hp, this, served, Engine.started, Entry.nextCycle]
  · rw [hb]
    unfold Bay.startRequest
    cases rest with
    | nil => rfl
    | cons n r => dsimp only; cases n.snap <;> dsimp only; split <;> rfl
  · rw [hb]
    unfold Bay.startRequest Bay.SameLines
    cases rest with
    | nil => exact ⟨rfl, rfl, rfl⟩
    | cons n r => dsimp only; cases n.snap <;> dsimp only <;> (try split) <;> exact ⟨rfl, rfl, rfl⟩
  · rw [ht]
    simp
  · rw [ht, State.startRequest_bay, if_neg (Ne.symm hc), h4 c hc]

end Sys2Proof.Machine
end

