-- ==== Sys2Proof/Tests/Slice0.lean ====
section
/-! SUPPORT. Tests: the well-formedness checks, the worked examples of the spec, single steps on small states, and for
every statement of Obligations.lean with hypotheses a state and operands that meet them, clause by clause. -/

namespace Sys2Proof.Tests

open Sys2Proof.Machine

/-! ## Small states -/

/-- The state after a command. -/
def after (i : Instr) (s : State) : State :=
  match exec i s with
  | .next t => t
  | _ => s

/-- The link unit in UP. -/
def upLink : LinkUnit :=
  { LinkUnit.reset with
    state := .up, epoch := 1,
    timers := { LinkTimers.reset with holdOff := false, keepalive := true, silence := true } }

/-- The bridge in UP with every credit granted. -/
def up : State :=
  { State.reset with link := upLink, ledger := { Ledger.reset with store := ⟨24, 0⟩, request := ⟨32, 0⟩, mgmt := ⟨1, 0⟩ } }

/-- The bridge in TRAINING with some progress. -/
def training (inRow sent : Nat) : State :=
  State.reset.setLink
    { LinkUnit.reset with
      state := .training, trainsInRow := inRow, trainsSent := sent, trainSeen := decide (0 < inRow),
      timers := { LinkTimers.reset with holdOff := false, training := true, trainInterval := true } }

/-- A module of width 16 with attention. -/
def module16 : ProfileSummary :=
  { kind := 0x1234, widthCapability := .w16, minWaitClass := 1, attentionSupported := true, serial := [1, 2, 3, 4, 5, 6] }

/-- A controller in a state, with what its state has. -/
def lifeIn (st : BayState) : Lifecycle :=
  { Lifecycle.reset with
    state := st, supply := if st.powered then .l else .none, mrstAsserted := !st.mrstReleased, lamp := st.lamp,
    moduleClass := if st.filtered && decide (st ≠ .identifying) then some .both else none,
    faultReason := if st = .faulted then some .powerFail else none,
    phase := if st = .powering then some .awaitingPgood else none,
    quiesceMode := if st = .quiescing then some .drain else none,
    summary := if st.served then some module16 else none,
    timer := match st with
      | .settling => some .stablePresence
      | .identifying => some .senseSettle
      | .powering => some .powerGoodWait
      | .resetting => some .moduleReset
      | .profiling => some .ready
      | _ => none }

/-- A bay with a module, in a state. -/
def bayIn (st : BayState) : Bay :=
  { Bay.reset with life := lifeIn st, presA := decide (st ≠ .empty), presB := decide (st ≠ .empty) }

/-- The bridge in UP with bay 5 in a state. -/
def withBay (st : BayState) : State := up.setBay .b5 (bayIn st)

/-- A memory window of 4096 granules at address 1000h, onto all BULK of bay 5. -/
def bulkWindow : Window :=
  { valid := true, bay := .b5, space := .bulk, upstreamBase := 0x1000, granules := 4096, bayBase := 0, width := .w16,
    waitClass := 2, protect := .writable }

/-- A READ_ONLY window of one granule at the top of the memory space. -/
def topWindow : Window :=
  { bulkWindow with space := .profile, upstreamBase := 2 ^ 48 - 4096, granules := 1, bayBase := 0xF000, protect := .readOnly }

/-- A READ_ONLY port window. -/
def portWindow : Window :=
  { bulkWindow with space := .port, upstreamBase := 0, granules := 1, bayBase := 0, protect := .readOnly }

/-- A Window Table with these windows at indexes 0, 30 and 31. -/
def table : WindowTable :=
  ((Vector.replicate 32 Window.reset |>.set 0 bulkWindow).set 30 portWindow).set 31 topWindow

/-- The bridge in UP with the table and bay 5 in a state. -/
def mapped (st : BayState) : State := (withBay st).setWindows table

/-- A FETCH of 7 bytes at address 2001h: bay address 1001h. -/
def fetch7 : RequestFields := { tag := 63, length := 7, address := 0x2001, data := [] }

/-- A STORE of 64 bytes at the first block of the window. -/
def store64 : StoreFields := { length := 64, address := 0x1000, data := List.replicate 64 0xA5 }

/-- A PORT_STORE of 4 bytes at the port window. -/
def portStore4 : RequestFields := { tag := 0, length := 4, address := 0, data := [1, 2, 3, 4] }

/-- The entry of the FETCH, being served. -/
def fetchEntry (done : Nat) : Entry :=
  .request
    { state := .active, kind := .fetch, tag := 63, snap := some ⟨.b5, .bulk, 0x1001, .w16, 2⟩, length := 7,
      data := List.replicate done 9, bytesDone := done, status := none }

/-- A STORE that waits behind it. -/
def storeEntry : Entry :=
  .store { state := .queued, snap := ⟨.b5, .bulk, 0x20, .w16, 2⟩, length := 1, data := [7], bytesDone := 0 }

/-- What a cycle of the FETCH has taken at its start. -/
def run (elapsed : Bool) : CycleRun := { accessTimer := 32, minLengthNs := 200, minElapsed := elapsed }

/-- A cycle of the FETCH after some bytes. -/
def cycleAt (done : Nat) (elapsed : Bool) : Cycle :=
  { address := 0x1001 + done, space := .bulk, wide := nextIsWide .w16 (0x1001 + done) (7 - done), write := false,
    run := some (run elapsed) }

/-- Bay 5, READY or QUIESCING, serves the FETCH in a cycle on the bus, with more entries behind it. -/
def serving (st : BayState) (done streak : Nat) (elapsed stop : Bool) (behind : List Entry) : State :=
  ((mapped st).setBay .b5
    { bayIn st with
      list := fetchEntry done :: behind,
      engine := { Engine.reset with
        state := .inCycle, work := .request, effectiveWidth := some .w16, effectiveWaitClass := some 2,
        cycle := some (cycleAt done elapsed), stopAfterCycle := stop, timeoutStreak := streak } }).setBus
    { driven := some ⟨.b5, BitVec.ofNat 24 (0x1001 + done), .bulk, false, false, []⟩, pointer := .b0 }

/-- Bay 5 reads the profile header, some bytes of which it has. -/
def profiling (bytes : List Byte) : State :=
  ((withBay .profiling).setBay .b5
    { bayIn .profiling with
      life := { lifeIn .profiling with mrdySeen := true, timer := none },
      engine := { Engine.reset with
        state := .inCycle, work := .profileRead, profileBytes := bytes,
        cycle := some { profileCycle bytes.length with run := some ⟨32, 360, false⟩ } } }).setBus
    { driven := some ⟨.b5, BitVec.ofNat 24 bytes.length, .profile, false, false, []⟩, pointer := .b0 }

/-- A valid profile header. -/
def header : List Byte := [0xB4, 0x2E, 0x34, 0x12, 1, 16, 1, 1, 1, 2, 3, 4, 5, 6, 0, 0xB0]

/-- Two frames of the replay list. -/
def frames : List Frame := [⟨4095, .grant 1 0 0⟩, ⟨0, .mgmtResp ⟨9, .done, []⟩⟩]

/-- The bridge in UP with two frames in the replay list and three attempts made. -/
def replaying (attempts : Nat) : State :=
  up.setLink
    { upLink with
      replay := frames, transmitNext := 1, attempts := attempts, timers := { upLink.timers with replay := true } }

/-- A BRIDGE_RESET is pending, with its response in the second frame of the replay list. -/
def resetPending : State :=
  (replaying 3).setMgmt
    { last := some ⟨9, .done, []⟩, busy := false, resetPending := true, resetTimer := true, resetFrame := some 0 }

/-! ## Well-formedness: one refused term for each check -/

theorem test_wf_refuses_long_frame :
    (Instr.sequencedFrameReceived 0 ⟨List.replicate 81 0, .nothing⟩).wf = false ∧
    (Instr.sequencedFrameReceived 0 ⟨[], .nothing⟩).wf = false ∧
    (Instr.sequencedFrameReceived 4095 ⟨List.replicate 80 0, .signalLoss⟩).wf = true := by decide

theorem test_wf_refuses_long_packets :
    (Instr.fetch ⟨some { fetch7 with data := List.replicate 70 0 }, .nothing⟩).wf = false ∧
    (Instr.portFetch ⟨some { fetch7 with data := List.replicate 70 0 }, .nothing⟩).wf = false ∧
    (Instr.portStore ⟨some { fetch7 with data := List.replicate 70 0 }, .nothing⟩).wf = false ∧
    (Instr.store ⟨some { store64 with data := List.replicate 71 0 }, .nothing⟩).wf = false ∧
    (Instr.store ⟨some store64, .replayExpiry⟩).wf = true := by decide

theorem test_wf_refuses_long_operands :
    (Instr.windowWrite 0 (List.replicate 78 0)).wf = false ∧
    (Instr.mgmtSequenceReplay 0 1 (List.replicate 78 0)).wf = false ∧
    (Instr.bridgeReset 0 (List.replicate 77 0)).wf = true := by decide

theorem test_wf_refuses_long_quiesce_before_report :
    (Instr.accessTimerExpiry .b0 (.quiesce 0 (List.replicate 78 0))).wf = false ∧
    (Instr.accessTimerExpiry .b0 (.quiesce 0 (List.replicate 77 0))).wf = true ∧
    (Instr.accessTimerExpiry .b0 .removal).wf = true := by decide

theorem test_wf_refuses_defined_code :
    (Instr.unknownCommand 0 0x7F []).wf = false ∧ (Instr.unknownCommand 0 0x02 []).wf = true := by decide

theorem test_wf_refuses_defined_kind :
    (Instr.unknownPacketKind 0x05 []).wf = false ∧ (Instr.unknownPacketKind 0x06 []).wf = true := by decide

/-! ## Worked values of the spec -/

/-- No row of the table has bits (log 2). -/
theorem test_no_word_spells_a_command : decodeTableWord 16 0 = none ∧ State.reset.withFetchWord 16 0 = State.reset :=
  ⟨rfl, rfl⟩

/-- R10: a request at 2001h through the window at 1000h reaches bay address 1001h. -/
theorem test_translation : bulkWindow.translate 0x2001 = ⟨.b5, .bulk, 0x1001, .w16, 2⟩ := by decide

/-- R54: seven bytes from an odd address are an 8-bit cycle and three pairs; from an even one, three pairs and a byte. -/
theorem test_cycles_of_seven_bytes :
    nextIsWide .w16 0x1001 7 = false ∧ nextIsWide .w16 0x1002 6 = true ∧ nextIsWide .w16 0x1006 2 = true ∧
    nextIsWide .w16 0x1000 7 = true ∧ nextIsWide .w16 0x1006 1 = false := by decide

/-- R87, R88: the header above passes its checks, and one changed byte fails them. -/
theorem test_header :
    headerSummary header = some module16 ∧ headerSummary (header.set 7 0) = none ∧
    headerSummary (header.set 15 0) = none := by decide

/-- R191: the remainder of the standard check over the nine digits is CBF43926h (log 25). -/
theorem test_check :
    checkBytes [0x31, 0x32, 0x33, 0x34, 0x35, 0x36, 0x37, 0x38, 0x39] = [0x26, 0x39, 0xF4, 0xCB] := by
  decide +kernel

/-- R191: a request packet, low-order address byte first. -/
theorem test_packet :
    packetOf [0x01, 63, 7, 0x01, 0x20, 0, 0, 0, 0, 0, 0] = .fetch (some fetch7) ∧
    packetOf [0x05, 9, 0x40, 1] = .mgmt 9 0x40 [1] ∧ packetOf [0x05, 9] = .mgmtShort ∧ packetOf [6, 0] = .unknownKind ∧
    packetOf [0x02, 1] = .store none := by decide

/-- R191: packets the bridge sends. -/
theorem test_sent_packets :
    (UpPacket.grant 4 0 1).bytes = [0x82, 4, 0, 1] ∧ (UpPacket.notice 7 .bridge 5).bytes = [0x83, 7, 6, 5] ∧
    (UpPacket.answer 63 .protectedWindow []).bytes = [0x81, 63, 2, 0] := by decide

/-- A frame without a header is a bad frame. -/
theorem test_short_frame : frameCommand [0x05, 0, 0] = .badFrameReceived := by decide

/-! ## Single steps -/

/-- R31, R154: a FETCH without a window is answered UNMAPPED, its credit consumed. -/
theorem test_unmapped_fetch :
    (after (.fetch ⟨some fetch7, .nothing⟩) up).ledger.request = ⟨31, 0⟩ ∧
    (after (.fetch ⟨some fetch7, .nothing⟩) up).answerOrder.map OpenEntry.status = [some .unmapped] := by decide

/-- R36, R51, R52: a FETCH of a READY bay is started at once, with an 8-bit cycle at its odd address. -/
theorem test_fetch_starts :
    ((after (.fetch ⟨some fetch7, .nothing⟩) (mapped .ready)).bay .b5).engine.cycle =
      some { address := 0x1001, space := .bulk, wide := false, write := false, run := none } ∧
    ((after (.fetch ⟨some fetch7, .nothing⟩) (mapped .ready)).bay .b5).engine.effectiveWaitClass = some 2 := by decide

/-- R55, R60: the end of the first cycle makes a pair ready. -/
theorem test_second_cycle_is_wide :
    ((after (.cycleMinLengthExpiry .b5 false false 0x55AA) (serving .ready 0 0 false false [])).bay .b5).engine.cycle =
      some { address := 0x1002, space := .bulk, wide := true, write := false, run := none } := by decide

/-- R65, R51: the last pair ends the FETCH with OK, its data low byte first, and the STORE behind it starts. -/
theorem test_fetch_ends :
    (after (.waitRelease .b5 false 0x55AA) (serving .ready 5 3 true false [storeEntry])).answerOrder.map OpenEntry.data =
      [[9, 9, 9, 9, 9, 0xAA, 0x55]] ∧
    ((after (.waitRelease .b5 false 0x55AA) (serving .ready 5 3 true false [storeEntry])).bay .b5).list =
      [storeEntry.activated] := by decide

/-- R67, R91: the fourth timeout faults the bay. -/
theorem test_fourth_timeout :
    ((after (.accessTimerExpiry .b5 .nothing) (serving .ready 0 3 false false [storeEntry])).bay .b5).life.faultReason =
      some .unresponsive := by decide

/-- R112: with the quiesce taken first, the last request's fourth timeout leaves the bay QUIESCED (log 17). -/
theorem test_fourth_timeout_after_quiesce :
    ((after (.accessTimerExpiry .b5 .quiesceCompletion) (serving .quiescing 0 3 false false [])).bay .b5).life.state =
      .quiesced := by decide

/-- Bay 5 in READY, its module leaving: the removal filter times. -/
def leaving (done streak : Nat) (behind : List Entry) : State :=
  (serving .ready done streak false false behind).setBay .b5
    { (serving .ready done streak false false behind).bay .b5 with
      presA := false,
      life := { lifeIn .ready with filter := .timing, policy := { Policy.reset with windowsOnRemoval := .clear } } }

/-- R67, R104: a removal ahead of the report answers the request with BAY_TIMEOUT and drops the STORE behind it with GONE,
raises no FAULT, and leaves the streak at 4 (log 17). -/
theorem test_fourth_timeout_after_removal :
    (after (.accessTimerExpiry .b5 .removal) (leaving 0 3 [storeEntry])).answerOrder.map OpenEntry.status =
      [some .bayTimeout] ∧
    ((after (.accessTimerExpiry .b5 .removal) (leaving 0 3 [storeEntry])).notice.record
      (.bay .b5 .storeDropped)).firstReason = some .gone ∧
    ((after (.accessTimerExpiry .b5 .removal) (leaving 0 3 [storeEntry])).notice.record (.bay .b5 .fault)).flag = false ∧
    ((after (.accessTimerExpiry .b5 .removal) (leaving 0 3 [storeEntry])).bay .b5).life.state = .empty ∧
    ((after (.accessTimerExpiry .b5 .removal) (leaving 0 3 [storeEntry])).bay .b5).engine.timeoutStreak = 4 := by
  decide

/-- R67: a loss of PGOOD ahead of the report faults the bay with POWER_FAIL, and a QUIESCE ahead of it shuts the bay down;
a QUIESCE that drains leaves the bay QUIESCING, and the report faults it (log 17). -/
theorem test_fourth_timeout_after_others :
    ((after (.accessTimerExpiry .b5 .pgoodLoss) (serving .ready 0 3 false false [storeEntry])).bay .b5).life.faultReason =
      some .powerFail ∧
    ((after (.accessTimerExpiry .b5 (.quiesce 1 [5, 1])) (serving .ready 0 3 false false [storeEntry])).bay
      .b5).life.state = .quiesced ∧
    ((after (.accessTimerExpiry .b5 (.quiesce 1 [5, 0])) (serving .ready 0 3 false false [storeEntry])).bay
      .b5).life.faultReason = some .unresponsive := by decide

/-- R15, R36: a removal under CLEAR between the lookup and the admission: the request is answered NO_MODULE and not
UNMAPPED, and a STORE is dropped with NO_MODULE (log 28). -/
theorem test_removal_between_lookup_and_admission :
    ((after (.fetch ⟨some { fetch7 with tag := 1 }, .removal⟩) (leaving 0 0 [])).answerOrder.map OpenEntry.status =
      [some .gone, some .noModule]) ∧
    ((after (.store ⟨some store64, .removal⟩) (leaving 0 0 [])).notice.record (.bay .b5 .storeDropped)).firstReason =
      some .noModule ∧
    ((after (.store ⟨some store64, .removal⟩) (leaving 0 0 [])).notice.record (.bridge .unmappedStore)).flag = false ∧
    (after (.store ⟨some store64, .removal⟩) (leaving 0 0 [])).windows[(0 : Fin 32)].valid = false := by decide

/-- R47: a FETCH whose append a link loss meets is freed unanswered and starts no engine; a STORE stays and is started; and
a FETCH whose link is lost in a later step is an orphan that its engine serves (log 29). -/
theorem test_link_loss_at_append :
    (((after (.fetch ⟨some fetch7, .signalLoss⟩) (mapped .ready)).bay .b5).list = [] ∧
      ((after (.fetch ⟨some fetch7, .signalLoss⟩) (mapped .ready)).bay .b5).engine.state = .idle ∧
      ((after (.fetch ⟨some fetch7, .signalLoss⟩) (mapped .ready)).bay .b5).life.unanswered = 1) ∧
    ((after (.store ⟨some store64, .silenceExpiry⟩) (mapped .ready)).bay .b5).engine.state = .awaitingBus ∧
    ((after .receiveSignalLoss (after (.fetch ⟨some fetch7, .nothing⟩) (mapped .ready))).bay .b5).engine.state =
      .awaitingBus := by decide

/-- R185: control frames wait in the order ACK, RESEND, IDLE; a retransmission takes its frames out of those that wait for
their first sending, and replaces the rest of the earlier one (logs 10, 33 and 34). -/
theorem test_transmitter :
    ((Transmitter.mk (some .idle) [.ack 1, .idle] [] []).sendControl (.resend 5)).control = [.ack 1, .resend 5, .idle] ∧
    ((Transmitter.mk (some .idle) [.resend 5] [] []).sendControl (.ack 1)).control = [.ack 1, .resend 5] ∧
    (Transmitter.mk (some .idle) [] [⟨3, .grant 1 0 0⟩] (⟨4, .grant 1 0 0⟩ :: frames)).sendAgain frames =
      ⟨some .idle, [], frames, [⟨4, .grant 1 0 0⟩]⟩ ∧
    ((Transmitter.mk (some .idle) [] [] frames).sendAgain frames).sendAgain (frames.drop 1) =
      ⟨some .idle, [], frames.drop 1, []⟩ := by decide

/-- R174, R175: an ACK of the response's frame resets the bridge, and keeps the epoch. -/
theorem test_deferred_reset :
    (after (.ackReceived 0) resetPending).link.state = .down ∧ (after (.ackReceived 0) resetPending).link.epoch = 1 ∧
    (after (.ackReceived 4095) resetPending).link.state = .up := by decide

/-- R80, R82: auto_power powers an H module with PGOOD asserted into SETTLING_POWER. -/
theorem test_auto_power :
    ((after (.senseSettleExpiry .b5 true false) (up.setBay .b5
      { bayIn .identifying with
        pgood := true,
        life := { lifeIn .identifying with policy := { Policy.reset with autoPower := true } } })).bay .b5).life.phase =
      some .settlingPower := by decide

/-! ## Witnesses: the link -/

theorem test_witness_queue : State.reset.pending = [] := rfl

theorem test_witness_power_on :
    (State.reset.bay .b0).present = false ∧ ((withBay .ready).bay .b5).present = true := by decide

/-- Every clause of PendingResetIsCarriedOut is met in one state. -/
theorem test_witness_pending_reset :
    resetPending.mgmt.resetPending = true ∧ resetPending.mgmt.resetTimer = true ∧ resetPending.link.state = .up ∧
    resetPending.mgmt.resetFrame = some 0 ∧ holdsSeq 0 resetPending.link.replay = true ∧
    holdsSeq 0 (framesAfter 0 resetPending.link.replay) = false ∧ resetPending.link.timers.silence = true ∧
    resetPending.link.timers.replay = true ∧ resetPending.link.replay ≠ [] ∧ 3 ≤ resetPending.link.attempts := by decide

theorem test_witness_training :
    (State.reset.link.state = .down ∧ State.reset.link.timers.holdOff = true) ∧
    ((training 0 1).link.state = .training ∧ (training 0 1).link.timers.training = true) ∧
    ((training 1 2).link.timers.trainInterval = true ∧ (training 1 2).link.trainsInRow ≠ 2) ∧
    ((training 2 0).link.timers.trainInterval = true ∧ (training 2 0).link.trainsSent = 0) ∧
    (training 0 2).link.trainsInRow = 0 ∧ (training 2 1).link.trainsSent < 2 := by decide

/-- UP is completed by the second TRAIN sent, and by the second ready TRAIN in a row. -/
theorem test_witness_entry_to_up :
    ((training 2 1).link.state = .training ∧ (training 2 1).link.timers.trainInterval = true ∧
      (training 2 1).link.trainsInRow = 2 ∧ 1 ≤ (training 2 1).link.trainsSent) ∧
    ((training 1 2).link.state = .training ∧ 1 ≤ (training 1 2).link.trainsInRow ∧
      2 ≤ (training 1 2).link.trainsSent) := by decide

theorem test_witness_notices_follow_link :
    State.reset.notice.firstUp = true ∧ EventId.bay .b0 .ready ≠ .bridge .linkRestored ∧
    State.reset.notice.linkUp.firstUp = false ∧
    (State.reset.notice.linkUp.record (.bridge .linkRestored)).flag = false ∧
    State.reset.notice.linkUp.linkUp.firstUp = false ∧
    (State.reset.notice.linkUp.linkUp.record (.bridge .linkRestored)).flag = true := by decide +kernel

/-- The law of the notice queue holds of a queue with a record, to which kinds are added in place and at the tail. -/
theorem test_witness_announced_queue :
    QueueLaw [NoticeRecord.mk (.bay .b3) 0x08] ∧
    announcedQueue (fun x => if x = .bridge then 0x02 else if x = .bay .b3 then 0x01 else 0)
        [NoticeRecord.mk (.bay .b3) 0x08] =
      [⟨.bay .b3, 0x09⟩, ⟨.bridge, 0x02⟩] := by
  refine ⟨⟨?_, ?_⟩, ?_⟩ <;> decide

theorem test_witness_bad_frames :
    (training 1 1).link.state = .training ∧ (up.link.state = .up ∧ up.link.resendSent = false) ∧
    ((after .badFrameReceived up).link.state = .up ∧ (after .badFrameReceived up).link.resendSent = true) := by decide

/-- A link unit in UP that expects frame 5. -/
def expecting (owed : Nat) (resendSent : Bool) : State :=
  up.setLink
    { upLink with
      receiveExpected := 5, ackOwed := owed, resendSent := resendSent,
      timers := { upLink.timers with ack := decide (0 < owed) } }

/-- The bounds of the clauses of SequencedFramesAreJudged: the duplicates and the gaps nearest and farthest. -/
theorem test_witness_sequenced_frames :
    ((5 : LinkSeq) = (expecting 2 false).link.receiveExpected ∧ (expecting 2 false).link.ackOwed < 3) ∧
    3 ≤ (expecting 3 false).link.ackOwed ∧
    ((5 : LinkSeq) - 4).toNat = 1 ∧ ((5 : LinkSeq) - 2053).toNat = 2048 ∧
    ((6 : LinkSeq) - 5).toNat = 1 ∧ ((2052 : LinkSeq) - 5).toNat = 2047 ∧
    (expecting 0 false).link.resendSent = false ∧ (expecting 0 true).link.resendSent = true ∧
    (expecting 1 false).link.timers.ack = true ∧ (expecting 2 false).link.state = .up := by decide

/-- The first and the last frame of the replay list, and a number it does not hold. -/
theorem test_witness_acks :
    (replaying 0).link.state = .up ∧ (replaying 0).mgmt.resetPending = false ∧
    (replaying 0).link.replay = [] ++ ⟨4095, .grant 1 0 0⟩ :: [⟨0, .mgmtResp ⟨9, .done, []⟩⟩] ∧
    (replaying 0).link.replay = [⟨4095, .grant 1 0 0⟩] ++ ⟨0, .mgmtResp ⟨9, .done, []⟩⟩ :: [] ∧
    (∀ g ∈ [Frame.mk 4095 (.grant 1 0 0)], g.seq ≠ 0) ∧ (∀ g ∈ (replaying 0).link.replay, g.seq ≠ 1) := by decide

/-- An ACK that does not acknowledge the response's frame of a pending BRIDGE_RESET. -/
theorem test_witness_ack_under_pending_reset :
    resetPending.link.state = .up ∧ resetPending.mgmt.resetPending = true ∧
    resetPending.link.replay = [] ++ ⟨4095, .grant 1 0 0⟩ :: [⟨0, .mgmtResp ⟨9, .done, []⟩⟩] ∧
    (∀ x, resetPending.mgmt.resetFrame = some x →
      ∃ g ∈ [Frame.mk 0 (.mgmtResp ⟨9, .done, []⟩)], g.seq = x) := by
  refine ⟨rfl, rfl, rfl, fun x hx => ?_⟩
  cases hx
  decide

/-- The three ways out of UP, in one state. -/
theorem test_witness_leaving_up :
    (replaying 3).link.state = .up ∧ (replaying 3).mgmt.resetPending = false ∧
    (replaying 3).link.timers.silence = true ∧ (replaying 3).link.timers.replay = true ∧
    (replaying 3).link.replay ≠ [] ∧ 3 ≤ (replaying 3).link.attempts := by decide

theorem test_witness_replay_timer :
    (replaying 2).link.state = .up ∧ (replaying 2).link.timers.replay = true ∧ (replaying 2).link.replay ≠ [] ∧
    (replaying 2).link.attempts < 3 := by decide

/-- A transmitter for each clause: control, retransmitted, placed, nothing. -/
theorem test_witness_transmitter :
    (up.link.state = .up ∧ up.link.timers.keepalive = true) ∧
    (∃ (s : State) (c : WireFrame) (rest : List WireFrame), s.link.tx.current = some .idle ∧
      s.link.tx.control = c :: rest) ∧
    (∃ (s : State) (g : Frame) (rest : List Frame), s.link.tx.current = some .idle ∧ s.link.tx.control = [] ∧
      s.link.tx.retransmit = g :: rest) ∧
    (∃ (s : State) (g : Frame) (rest : List Frame), s.link.tx.current = some .idle ∧ s.link.tx.control = [] ∧
      s.link.tx.retransmit = [] ∧ s.link.tx.fresh = g :: rest) ∧
    (∃ s : State, s.link.tx.current = some .idle ∧ s.link.tx.control = [] ∧ s.link.tx.retransmit = [] ∧
      s.link.tx.fresh = []) :=
  ⟨by decide,
   ⟨up.setLink { upLink with tx := ⟨some .idle, [.ack 1], frames, frames⟩ }, .ack 1, [], rfl, rfl⟩,
   ⟨up.setLink { upLink with tx := ⟨some .idle, [], frames, frames⟩ }, _, _, rfl, rfl, rfl⟩,
   ⟨up.setLink { upLink with tx := ⟨some .idle, [], [], frames⟩ }, _, _, rfl, rfl, rfl, rfl⟩,
   ⟨up.setLink { upLink with tx := ⟨some .idle, [], [], []⟩ }, rfl, rfl, rfl, rfl⟩⟩

/-- Where a control frame joins those that wait: behind its own kind and those ahead of it. -/
theorem test_witness_waiting_frames :
    (Transmitter.mk (some .idle) [.ack 1, .idle] frames frames).current = some .idle ∧
    (Transmitter.mk (some .idle) [.ack 1, .idle] frames frames).control = [.ack 1] ++ [.idle] ∧
    (∀ y ∈ [WireFrame.ack 1], y.rank ≤ (WireFrame.resend 2).rank) ∧
    (WireFrame.resend 2).rank < WireFrame.idle.rank := by decide

theorem test_witness_discarded_frames :
    up.link.state ≠ .training ∧ State.reset.link.state = .down ∧ (training 0 1).link.state ≠ .up := by decide

/-! ## Witnesses: intake -/

/-- A bridge in UP that has granted nothing. -/
def noCredit : State := up.setLedger Ledger.reset

theorem test_witness_overrun :
    requestPool (.store ⟨none, .nothing⟩) = some .store ∧ requestPool (.fetch ⟨none, .removal⟩) = some .request ∧
    requestPool (.bridgeReset 0 []) = some .mgmt ∧ requestPool (.malformedMgmtPacket none) = some .mgmt ∧
    noCredit.link.state = .up ∧ (noCredit.ledger.get .store).outstanding = 0 ∧
    (noCredit.ledger.get .request).outstanding = 0 ∧ (noCredit.ledger.get .mgmt).outstanding = 0 ∧
    State.reset.link.state ≠ .up := by decide

/-- R124: a purge of a store starts the grant timer where nothing was pending return. -/
theorem test_purge_starts_grant_timer :
    (serving .ready 0 0 false false [storeEntry]).ledger.pendingTotal = 0 ∧
    (serving .ready 0 0 false false [storeEntry]).ledger.grantTimer = false ∧
    (after (.pgoodLoss .b5) (serving .ready 0 0 false false [storeEntry])).ledger.grantTimer = true ∧
    (after (.pgoodLoss .b5) (serving .ready 0 0 false false [])).ledger.grantTimer = false := by decide

/-- Credit of every pool, a packet cut short, and one packet for each bound of the form check. -/
theorem test_witness_malformed :
    (up.link.state = .up ∧ 0 < (up.ledger.get .request).outstanding ∧ 0 < (up.ledger.get .store).outstanding ∧
      0 < (up.ledger.get .mgmt).outstanding) ∧
    requestWellFormed .fetch { fetch7 with tag := 64 } = false ∧
    requestWellFormed .fetch { fetch7 with length := 64 } = false ∧
    requestWellFormed .portFetch { fetch7 with length := 5 } = false ∧
    requestWellFormed .portStore { portStore4 with data := [1, 2, 3] } = false ∧
    storeWellFormed { store64 with length := 65 } = false ∧
    storeWellFormed { store64 with address := 2 ^ 48 } = false ∧ (0x00 : Byte) ∉ requestKinds := by decide

theorem test_witness_tag_in_use :
    (serving .ready 0 0 false false []).link.state = .up ∧
    0 < ((serving .ready 0 0 false false []).ledger.get .request).outstanding ∧
    requestWellFormed .fetch fetch7 = true ∧
    BitVec.ofNat 6 fetch7.tag.toNat ∈ (serving .ready 0 0 false false []).tagsInForce := by decide

/-- The table obeys its law, and a window covers its last byte but not the next. -/
theorem test_witness_lookup :
    WindowLaw table ∧ table[(0 : Fin 32)].takesPart false = true ∧ table[(0 : Fin 32)].covers 0x1000FFF = true ∧
    table[(31 : Fin 32)].covers (2 ^ 48 - 1) = true ∧
    (∀ i : Fin 32, table[i].takesPart false = true → table[i].covers 0x1001000 = false) := by
  refine ⟨⟨?_, ?_⟩, ?_, ?_, ?_, ?_⟩ <;> decide

/-- The reasons for a refusal of a request, each in a state. -/
theorem test_witness_refused_requests :
    (requestWellFormed .fetch fetch7 = true ∧ requestWellFormed .portStore portStore4 = true) ∧
    (BitVec.ofNat 6 fetch7.tag.toNat ∉ (mapped .empty).tagsInForce ∧
      0 < ((mapped .empty).ledger.get .request).outstanding) ∧
    lookupWindow up.windows false fetch7.address.toNat = none ∧
    (lookupWindow table true portStore4.address.toNat = some portWindow ∧ portWindow.protect = .readOnly) ∧
    lookupWindow table false fetch7.address.toNat = some bulkWindow ∧
    ((mapped .settling).bay bulkWindow.bay).life.state ∈ [BayState.empty, .settling, .identifying] ∧
    ((mapped .faulted).bay bulkWindow.bay).life.state ∈
      [BayState.unpowered, .powering, .resetting, .profiling, .faulted] ∧
    ((mapped .quiescing).bay bulkWindow.bay).life.state ∈ [BayState.quiescing, .quiesced] := by decide

/-- A removal between the lookup and the admission, and none: the states in which admission is asked. -/
theorem test_witness_overtaken :
    (∃ u, Overtaken ((leaving 0 0 []).consumed .request) .b5 .removal u ∧
      (u.bay .b5).life.state ∈ [BayState.empty, .settling, .identifying]) ∧
    (∃ u, Overtaken ((leaving 0 0 []).consumed .store) .b5 .removal u ∧
      (u.bay .b5).life.state ∈ [BayState.empty, .settling, .identifying]) ∧
    (∃ u, Overtaken ((mapped .ready).consumed .request) .b5 .removal u ∧ (u.bay .b5).life.state = .ready) ∧
    Overtaken ((mapped .ready).consumed .request) .b5 .signalLoss ((mapped .ready).consumed .request) :=
  ⟨⟨_, .inr ⟨rfl, rfl⟩, by decide⟩, ⟨_, .inr ⟨rfl, rfl⟩, by decide⟩, ⟨_, .inr ⟨rfl, rfl⟩, by decide⟩, .inl ⟨by decide, rfl⟩⟩

theorem test_witness_refused_stores :
    storeWellFormed store64 = true ∧ 0 < ((mapped .empty).ledger.get .store).outstanding ∧
    (mapped .empty).link.state = .up ∧ lookupWindow up.windows false store64.address.toNat = none ∧
    (lookupWindow table false (2 ^ 48 - 64) = some topWindow ∧ topWindow.protect = .readOnly) ∧
    (lookupWindow table false store64.address.toNat = some bulkWindow ∧ bulkWindow.protect = .writable) ∧
    ((mapped .empty).bay .b5).life.state ∈ [BayState.empty, .settling, .identifying] ∧
    ((mapped .unpowered).bay .b5).life.state ∈
      [BayState.unpowered, .powering, .resetting, .profiling, .faulted] ∧
    ((mapped .quiesced).bay .b5).life.state ∈ [BayState.quiescing, .quiesced] := by decide

/-- A request of each kind for a READY bay, idle or busy. -/
theorem test_witness_admission :
    (lookupWindow (mapped .ready).windows false fetch7.address.toNat = some bulkWindow ∧
      requestWellFormed .fetch fetch7 = true ∧ BitVec.ofNat 6 fetch7.tag.toNat ∉ (mapped .ready).tagsInForce ∧
      RequestKind.fetch ≠ .portStore) ∧
    (lookupWindow (mapped .ready).windows false store64.address.toNat = some bulkWindow ∧
      storeWellFormed store64 = true ∧ bulkWindow.protect = .writable) ∧
    (0 < ((mapped .ready).ledger.get .request).outstanding ∧ 0 < ((mapped .ready).ledger.get .store).outstanding) ∧
    ((mapped .ready).bay .b5).life.state = .ready ∧ ((mapped .ready).bay .b5).engine.state = .idle ∧
    ((mapped .ready).bay .b5).engine.work = .none ∧ ((mapped .ready).bay .b5).list = [] ∧
    ((serving .ready 0 0 false false []).bay .b5).engine.state ≠ .idle := by decide

/-- A link that each of the three events takes out of UP, and what the loss leaves of the list: nothing of a FETCH, all of a
STORE, and the served head of a busy engine. -/
theorem test_witness_link_loss_at_append :
    (commandAtAppend .removal = none ∧ commandAtAppend .signalLoss = some .receiveSignalLoss) ∧
    ((mapped .ready).link.IsLost .signalLoss ∧ (mapped .ready).link.IsLost .silenceExpiry ∧
      (replaying 3).link.IsLost .replayExpiry ∧ (mapped .ready).mgmt.resetPending = false) ∧
    (let v := after .receiveSignalLoss ((mapped .ready).setList .b5 [.store (newStore store64 (bulkWindow.translate 0x1000))])
     (v.bay .b5).engine.state = .idle ∧ (v.bay .b5).engine.work = .none ∧ (v.bay .b5).life.state = .ready ∧
      (v.bay .b5).list = [.store (newStore store64 (bulkWindow.translate 0x1000))]) ∧
    (let v := after .receiveSignalLoss (serving .ready 0 0 false false [fetchEntry 0])
     (v.bay .b5).engine.state ≠ .idle) := by
  refine ⟨⟨rfl, rfl⟩, ⟨.inl rfl, .inr (.inl ⟨rfl, rfl⟩), .inr (.inr ⟨rfl, rfl, by decide, by decide⟩), rfl⟩, ?_, ?_⟩ <;>
    decide

/-! ## Witnesses: the bay bus -/

/-- Bay 5 waits for a free bus, last in the arbiter's order. -/
def waiting : State :=
  (mapped .ready).setBay .b5
    { bayIn .ready with
      list := [fetchEntry 0],
      engine := { Engine.reset with
        state := .awaitingBus, work := .request, effectiveWidth := some .w16, effectiveWaitClass := some 2,
        cycle := some { cycleAt 0 false with run := none } } }

theorem test_witness_bus_grant :
    waiting.bus.driven = none ∧ arbiterOrder waiting.bus.pointer = [.b0, .b1, .b2, .b3, .b4] ++ .b5 :: [] ∧
    (∀ x ∈ [BayId.b0, .b1, .b2, .b3, .b4], (waiting.bay x).engine.state ≠ .awaitingBus) ∧
    (waiting.bay .b5).engine.state = .awaitingBus ∧
    (waiting.bay .b5).engine.cycle = some { cycleAt 0 false with run := none } ∧
    (serving .ready 0 0 false false []).bus.driven ≠ none := by decide

theorem test_witness_no_grant : ∀ b, (up.bay b).engine.state ≠ .awaitingBus := by
  intro b; cases b <;> decide

/-- A served request meets the hypotheses that the statements on a cycle's end share. -/
theorem test_witness_serves (st : BayState) (done streak : Nat) (elapsed stop : Bool) (behind : List Entry) :
    (serving st done streak elapsed stop behind).Serves .b5 (cycleAt done elapsed) (run elapsed) (fetchEntry done)
      behind :=
  ⟨rfl, rfl, rfl, rfl, rfl, ⟨_, rfl, rfl⟩⟩

/-- The list law holds of a served request with a STORE behind it. -/
theorem test_witness_list_law (done streak : Nat) (elapsed stop : Bool) (h : done < 7) :
    BayListLaw (serving .ready done streak elapsed stop [storeEntry]) ∧
    BayListLaw (serving .quiescing done streak elapsed stop []) := by
  refine ⟨fun b => ?_, fun b => ?_⟩ <;>
    cases b <;>
      simp [serving, mapped, withBay, up, State.reset, State.bay, State.setBay, State.setBays, State.setBus,
        State.setWindows, PerBay.get, PerBay.set, Bay.reset, Engine.reset, Bay.EngineLawful, Engine.CycleLawful,
        Engine.running, bayIn, lifeIn, Lifecycle.reset, BayState.served, fetchEntry, storeEntry, Entry.isQueued,
        Entry.Lawful, Entry.snap, Entry.bytesDone, Entry.length, cycleAt, run, h]

/-- The bounds of the clauses: a cycle that is not the last, one that is, and the two events that end it. -/
theorem test_witness_cycle_ends :
    (fetchEntry 4).bytesDone + (cycleAt 4 false).bytes < (fetchEntry 4).length ∧
    (fetchEntry 5).length ≤ (fetchEntry 5).bytesDone + (cycleAt 5 true).bytes ∧
    (fetchEntry 4).snap = some ⟨.b5, .bulk, 0x1001, .w16, 2⟩ ∧ (run false).minElapsed = false ∧
    (run true).minElapsed = true ∧
    ((serving .ready 4 0 false false []).bay .b5).engine.stopAfterCycle = false ∧
    ((serving .ready 4 0 false false []).bay .b5).engine.effectiveWidth = some .w16 ∧
    ((serving .quiescing 5 0 true true []).bay .b5).engine.stopAfterCycle = true := by decide

theorem test_witness_ends_cycle (error : Bool) (lanes : BitVec 16) :
    EndsCycle (.cycleMinLengthExpiry .b5 false error lanes) .b5 (run false) error lanes ∧
    EndsCycle (.waitRelease .b5 error lanes) .b5 (run true) error lanes :=
  ⟨.inl ⟨rfl, rfl⟩, .inr ⟨rfl, rfl⟩⟩

/-- The streaks of the timeout statements, and the two orders of the fourth timeout. -/
theorem test_witness_timeouts :
    ((serving .ready 0 2 false false []).bay .b5).engine.timeoutStreak < 3 ∧
    ((serving .ready 0 3 false false [storeEntry]).bay .b5).engine.timeoutStreak = 3 ∧
    ((serving .quiescing 0 3 false false []).bay .b5).life.state = .quiescing ∧
    ((serving .ready 0 3 false false [storeEntry]).bay .b5).life.state ≠ .quiescing := by decide

/-- What is taken ahead of the report, in a bay that it finds READY and in one that it finds EMPTY. -/
theorem test_witness_before_report :
    commandBefore .b5 .nothing = none ∧ commandBefore .b5 .removal = some (.removalTimerExpiry .b5) ∧
    ((after (.accessTimerExpiry .b5 .removal) (leaving 0 3 [])).bay .b5).life.state ∉
      [BayState.ready, .quiescing] ∧
    ((after (.accessTimerExpiry .b5 .removal) (serving .ready 0 3 false false [])).bay .b5).life.state = .faulted := by
  decide

/-- The profile read before its fifteenth and its sixteenth byte. -/
theorem test_witness_profile_read (bytes : List Byte) :
    ((profiling bytes).bay .b5).engine.state = .inCycle ∧
    ((profiling bytes).bay .b5).engine.cycle =
      some { profileCycle bytes.length with run := some ⟨32, 360, false⟩ } ∧
    ((profiling bytes).bay .b5).engine.work = .profileRead ∧ ((profiling bytes).bay .b5).life.state = .profiling ∧
    (profiling bytes).bus.driven = some ⟨.b5, BitVec.ofNat 24 bytes.length, .profile, false, false, []⟩ :=
  ⟨rfl, rfl, rfl, rfl, rfl⟩

theorem test_witness_profile_bytes :
    ((profiling (header.take 14)).bay .b5).engine.profileBytes.length < 15 ∧
    ((profiling (header.take 15)).bay .b5).engine.profileBytes.length = 15 ∧
    headerSummary (header.take 15 ++ [0xB0]) = some module16 ∧ headerSummary (header.take 15 ++ [0xB1]) = none := by
  decide

/-! ## Witnesses: the bay lifecycle -/

theorem test_witness_presence :
    (((withBay .empty).bay .b5).life.state = .empty ∧
      (({ bayIn .empty with presB := true } : Bay).setContact .presA true).present = true) ∧
    ((withBay .settling).bay .b5).life.state = .settling ∧ ((bayIn .empty).setContact .presA true).present = false ∧
    ((withBay .faulted).bay .b5).life.state ≠ .empty ∧ ((withBay .faulted).bay .b5).life.state ≠ .settling ∧
    ((bayIn .faulted).setContact .presA true).present = true := by decide

theorem test_witness_bay_events :
    (((withBay .settling).bay .b5).life.timer = some .stablePresence) ∧
    (((withBay .identifying).bay .b5).life.state ≠ .settling ∧
      ((withBay .identifying).bay .b5).life.timer ≠ some .stablePresence) ∧
    (((withBay .ready).bay .b5).life.state = .ready ∧ ((withBay .ready).bay .b5).life.summary = some module16 ∧
      module16.attentionSupported = true) ∧
    ((withBay .faulted).bay .b5).life.state ≠ .ready ∧
    (((withBay .quiescing).bay .b5).life.state = .quiescing ∧ ((withBay .quiescing).bay .b5).list = []) ∧
    ((withBay .ready).bay .b5).life.state ≠ .quiescing ∧
    ((serving .quiescing 0 0 false false []).bay .b5).list ≠ [] := by decide

theorem test_witness_identifying :
    ((withBay .identifying).bay .b5).life.state = .identifying ∧
    ((withBay .identifying).bay .b5).life.timer = some .senseSettle ∧
    ((withBay .identifying).bay .b5).life.policy.autoPower = false ∧
    ((withBay .identifying).bay .b5).pgood = false := by decide

theorem test_witness_power_up :
    (((withBay .powering).bay .b5).life.phase = some .awaitingPgood ∧
      ((withBay .powering).bay .b5).life.timer = some .powerGoodWait) ∧
    ((withBay .ready).bay .b5).life.state ≠ .powering ∧
    ((after (.pgoodArrival .b5) (withBay .powering)).bay .b5).life.phase = some .settlingPower ∧
    ((after (.pgoodArrival .b5) (withBay .powering)).bay .b5).life.timer = some .powerSettle ∧
    ((withBay .resetting).bay .b5).life.timer = some .moduleReset ∧
    (((withBay .profiling).bay .b5).life.mrdySeen = false ∧ ((withBay .profiling).bay .b5).life.timer = some .ready) ∧
    ((withBay .quiescing).bay .b5).life.state ∈ [BayState.resetting, .profiling, .ready, .quiescing] ∧
    ((withBay .quiesced).bay .b5).life.state ∈
      [BayState.empty, .settling, .identifying, .unpowered, .quiesced, .faulted] := by decide

/-- A removal from READY with a list, under both policies and both levels of the contacts. -/
theorem test_witness_removal (policy : RemovalPolicy) (a : Bool) (s : State)
    (h : s = (serving .ready 0 0 false false [storeEntry]).setBay .b5
      { (serving .ready 0 0 false false [storeEntry]).bay .b5 with
        presA := a, life := { lifeIn .ready with filter := .timing, policy := { Policy.reset with windowsOnRemoval := policy } } }) :
    (s.bay .b5).life.state ≠ .empty ∧ (s.bay .b5).life.state ≠ .settling ∧ (s.bay .b5).life.filter = .timing ∧
    (s.bay .b5).life.policy.windowsOnRemoval = policy := by
  subst h; cases policy <;> cases a <;> decide

/-! ## Witnesses: the Transmit Arbiter -/

/-- A bridge in UP with a response, an answer and a notice waiting. -/
def crowded (starvation pending : Nat) : State :=
  { up with
    starvation := starvation,
    ledger := { up.ledger with store := ⟨20, pending⟩, grantTimer := true },
    mgmt := { Mgmt.reset with last := some ⟨9, .done, []⟩, busy := true },
    answerOrder := [{ newEntry .fetch fetch7 none with state := .answerReady, status := some .unmapped }],
    notice := { NoticeUnit.reset with queue := [⟨.bridge, 1⟩] } }

theorem test_witness_grant :
    (crowded 7 4).ledger.grantTimer = true ∧ (crowded 7 4).link.state = .up ∧ (crowded 7 4).link.replay.length < 16 ∧
    (crowded 7 4).starvation < 8 ∧ 0 < (crowded 7 4).ledger.pendingTotal ∧
    4 ≤ (crowded 7 4).ledger.store.pendingReturn ∧ State.reset.link.state ≠ .up ∧ up.notice.queue = [] ∧
    16 ≤ (up.setLink { upLink with replay := List.replicate 16 ⟨0, .grant 0 0 0⟩ }).link.replay.length := by decide

theorem test_witness_response :
    (crowded 7 3).ledger.grantWanted = false ∧ (crowded 7 3).mgmt.busy = true ∧
    (crowded 7 3).mgmt.last = some ⟨9, .done, []⟩ ∧ (crowded 7 3).starvation < 8 ∧
    (crowded 7 3).mgmt.resetPending = false ∧ resetPending.mgmt.resetPending = true ∧
    ({ resetPending.mgmt with resetFrame := none, resetTimer := false } : Mgmt).resetFrame = none := by decide

theorem test_witness_answer :
    ∃ e rest, ((crowded 7 3).setMgmt Mgmt.reset).answerOrder = e :: rest ∧ e.status = some .unmapped ∧
      ((crowded 7 3).setMgmt Mgmt.reset).mgmt.busy = false ∧
      ((crowded 7 3).setMgmt Mgmt.reset).ledger.grantWanted = false :=
  ⟨_, _, rfl, rfl, rfl, by decide⟩

theorem test_witness_notice :
    ((crowded 8 4).notice.queue = ⟨.bridge, 1⟩ :: [] ∧ 8 ≤ (crowded 8 4).starvation ∧
      (crowded 8 4).link.state = .up ∧ (crowded 8 4).link.replay.length < 16) ∧
    (((up.setNotice (crowded 0 0).notice).ledger.grantWanted = false) ∧
      (up.setNotice (crowded 0 0).notice).mgmt.busy = false ∧
      (up.setNotice (crowded 0 0).notice).answerOrder = []) := by decide

/-! ## Witnesses: the management commands -/

theorem test_witness_accepts : up.AcceptsMgmt 0 ∧ (withBay .ready).AcceptsMgmt 255 ∧ (mapped .quiescing).AcceptsMgmt 1 :=
  ⟨⟨rfl, by decide, by decide⟩, ⟨rfl, by decide, by decide⟩, ⟨rfl, by decide, by decide⟩⟩

theorem test_witness_replay :
    mgmtFields (.bridgeReset 9 []) = some (9, 0x7F, []) ∧
    ((up.setMgmt { Mgmt.reset with last := some ⟨9, .done, []⟩ }).mgmt.last.map MgmtResp.seq = some 9) ∧
    0 < ((up.setMgmt { Mgmt.reset with last := some ⟨9, .done, []⟩ }).ledger.get .mgmt).outstanding := by decide

/-- The operand bytes of a window, as WINDOW_WRITE takes them. -/
def windowBytes (index : Byte) (w : Window) : List Byte :=
  [index, boolCode w.valid, w.bay.code, w.space.code, w.width.code, BitVec.ofNat 8 w.waitClass.val, w.protect.code] ++
  leBytes 2 w.granules ++ leBytes 8 w.upstreamBase ++ leBytes 4 w.bayBase

/-- Operand lists at the edge of the checks of BadCommandsAreRefused. -/
theorem test_witness_bad_operands :
    (0x02 : Byte) ∉ commandCodes ∧ windowWriteOperands (windowBytes 32 bulkWindow) = none ∧
    windowWriteOperands (windowBytes 31 { bulkWindow with granules := 4097 }) = none ∧
    windowWriteOperands (windowBytes 31 { bulkWindow with upstreamBase := 0x1800 }) = none ∧
    windowWriteOperands (windowBytes 31 { topWindow with granules := 2 }) = none ∧
    ((windowBytes 31 bulkWindow).take 20).length = 20 ∧ (windowBytes 31 bulkWindow ++ [0]).length = 22 ∧ 32 ≤ (32 : Byte).toNat ∧
    6 ≤ (6 : Byte).toNat ∧ (1 : Byte).toNat < 2 ∧ ((5 : Byte).toNat < 6 ∧ (0x80 : Byte).getLsbD 7 = true) ∧
    ((6 : Byte).toNat = 6 ∧ 8 ≤ (8 : Byte).toNat) ∧
    (3 : Byte) ∉ [0x01#8, 0x02#8, 0x04#8, 0x08#8, 0x10#8, 0x20#8, 0x40#8] := by decide

/-- A window that overlaps another index, the same window at its own index, and an invalid one. -/
theorem test_witness_window_write :
    windowWriteOperands (windowBytes 1 bulkWindow) = some (1, bulkWindow) ∧
    windowWriteOperands (windowBytes 0 bulkWindow) = some (0, bulkWindow) ∧
    windowWriteOperands (windowBytes 0 { bulkWindow with valid := false }) =
      some (0, { bulkWindow with valid := false }) ∧
    (bulkWindow.valid = true ∧ ∃ j : Fin 32, j ≠ 1 ∧ table[j].valid = true ∧ bulkWindow.overlaps table[j] = true) ∧
    (∀ j : Fin 32, j ≠ 0 → table[j].valid = true → bulkWindow.overlaps table[j] = false) := by decide

theorem test_witness_codes :
    (5 : Byte).toNat = BayId.b5.toNat ∧ (31 : Byte).toNat < 32 ∧ (6 : Byte) = Source.bridge.code ∧
    2 ≤ (2 : Byte).toNat ∧ ((2 : Byte) = 2 ∧ ModuleClass.both.supports .h = true) ∧
    ModuleClass.lOnly.supports .h = false := by decide

/-- Bay states for the clauses of POWER_ON, BAY_RESTART and QUIESCE. -/
theorem test_witness_lifecycle_commands :
    ((withBay .unpowered).bay .b5).life.moduleClass = some .both ∧ ((withBay .unpowered).bay .b5).pgood = false ∧
    (((serving .ready 0 0 false false []).bay .b5).list ≠ [] ∧
      ((serving .ready 0 0 false false []).bay .b5).engine.state = .inCycle) ∧
    (((withBay .ready).bay .b5).list = [] ∧ ((withBay .ready).bay .b5).engine.state ≠ .inCycle) ∧
    (((serving .quiescing 0 0 false false []).bay .b5).life.quiesceMode = some .drain ∧
      ((serving .quiescing 0 0 false false []).bay .b5).list = fetchEntry 0 :: []) ∧
    (waiting.bay .b5).engine.state ≠ .inCycle ∧ (waiting.bay .b5).list ≠ [] := by decide

/-! ## Witnesses: events -/

/-- A bridge in UP where READY of bay 5 is enabled, and FAULT of bay 5 raised, enabled and announced. -/
def noticed : State :=
  (up.setNotice (up.notice.enableKinds (.bay .b5) 0x0C)).raise (.bay .b5 .fault) (some .powerFail)

theorem test_witness_raise :
    (noticed.notice.record (.bay .b5 .fault)).flag = true ∧
    ((noticed.notice.record (.bay .b5 .ready)).flag = false ∧ (noticed.notice.record (.bay .b5 .ready)).enable = true) ∧
    ((noticed.notice.record (.bay .b0 .ready)).flag = false ∧
      (noticed.notice.record (.bay .b0 .ready)).enable = false) ∧
    (noticed.notice.queue = [] ++ ⟨.bay .b5, 0x08⟩ :: []) ∧
    (∀ r ∈ noticed.notice.queue, r.source ≠ Source.bay .b0) ∧ noticed.AcceptsMgmt 0 :=
  ⟨by decide, by decide, by decide, by decide, by decide, ⟨rfl, by decide, by decide⟩⟩

/-- R143, R144: a kind disabled in a queued record stays there unannounced after an outage, and once it is placed a later
enable queues it again (log 35). -/
theorem test_disabled_kind_after_outage :
    ((noticed.notice.enableKinds (.bay .b5) 0).forgetAnnounced.linkUp.record (.bay .b5 .fault)).announced = false ∧
    (noticed.notice.enableKinds (.bay .b5) 0).forgetAnnounced.linkUp.queue = [⟨.bay .b5, 0x08⟩] ∧
    ({ (noticed.notice.enableKinds (.bay .b5) 0).forgetAnnounced.linkUp with queue := [] }.enableKinds
      (.bay .b5) 0x08).queue = [⟨.bay .b5, 0x08⟩] := by decide +kernel

theorem test_witness_kinds :
    (0x7F#8 &&& ~~~(Source.bay .b5).kinds = 0#8) ∧ (0x07#8 &&& ~~~Source.bridge.kinds = 0#8) ∧
    (0x80#8 &&& ~~~(Source.bay .b5).kinds ≠ 0#8) := by decide

/-! ## Witnesses: the laws, in a bridge that serves a request and has a notice waiting -/

/-- The served FETCH with its credit consumed, a notice waiting, and a command in the queue. -/
def lawful : State :=
  (((serving .ready 4 0 false false [storeEntry]).setLedger
    { up.ledger with store := ⟨23, 0⟩, request := ⟨30, 1⟩, grantTimer := true }).setNotice noticed.notice).setPending [.placeNotice]

theorem test_witness_window_law : WindowLaw lawful.windows := by refine ⟨?_, ?_⟩ <;> decide

theorem test_witness_credit_law : CreditLaw lawful ∧ PoolLaw lawful ∧ GrantTimerLaw lawful.ledger := by
  refine ⟨⟨fun _ => by decide, fun h => absurd rfl h⟩, ⟨by decide, by decide, fun h => absurd rfl h⟩, ?_⟩
  unfold GrantTimerLaw; decide

theorem test_witness_notice_law : NoticeLaw lawful.notice := by
  refine ⟨fun e => ?_, by decide, by decide⟩
  cases e with
  | bay b k => cases b <;> cases k <;> exact ⟨by decide, by decide, by decide⟩
  | bridge k => cases k <;> exact ⟨by decide, by decide, by decide⟩

theorem test_witness_bay_law : BayLaw lawful := by
  refine ⟨fun b => ?_, fun b => ?_, fun b => ?_⟩
  · cases b <;> refine ⟨⟨?_, ?_, ?_⟩, ?_⟩ <;>
      first
        | (unfold Lifecycle.LinesLawful; decide)
        | (unfold Lifecycle.ItemsLawful; decide)
        | (unfold Bay.PresenceLawful; decide)
        | rfl
  · exact (test_witness_list_law 4 0 false false (by decide)).1 b
  · cases b <;> exact ⟨fun h => by first | exact absurd h (by decide) | exact ⟨_, rfl, rfl⟩, fun h => by
      obtain ⟨c, hc, hb⟩ := h; cases hc; first | rfl | cases hb⟩

theorem test_witness_request_law : RequestLaw lawful :=
  ⟨fun _ h => (by cases h), (by unfold TagLaw; decide), fun h => absurd rfl h⟩

theorem test_witness_link_law : LinkLaw lawful.link := by
  refine ⟨⟨?_, ?_, ?_, ?_, ?_⟩, ⟨?_, ?_, ?_⟩, ⟨?_, ?_, ?_, ?_, ?_⟩, ⟨?_, ?_⟩, ?_⟩ <;>
    first | decide | trivial

theorem test_witness_arbiter_laws : StarvationLaw lawful ∧ MgmtLaw lawful :=
  ⟨⟨by decide, by decide⟩, by decide, by decide, by decide, by decide⟩

/-- The queued command places the notice: a step that answers a next state. -/
theorem test_witness_step : ∃ t, step lawful = .next t ∧ t.notice.queue = [] ∧ t.notice.nextSeq = 1 :=
  ⟨_, rfl, rfl, rfl⟩

/-- The frame statement's bounds: payloads of 1 and 80 bytes. -/
theorem test_witness_frames :
    1 ≤ [(0 : Byte)].length ∧ (List.replicate 80 (0 : Byte)).length ≤ 80 ∧
    [] ≠ checkBytes (envelope 0x05 0 []) := by decide

end Sys2Proof.Tests
end

/-! SUPPORT. The Window Table: its entries after each change (R19, R21, R22), the tests of an entry in numbers (R5, R17,
R18), and what keeps its law. -/

namespace Sys2Proof.Machine

/-! ## Entries of the table -/

/-- The entries, by their indexes. -/
theorem mem_windows_iff (t : WindowTable) (w : Window) : w ∈ t.toList ↔ ∃ i : Fin 32, t[i] = w := by
  simp [Vector.mem_iff_getElem, Fin.exists_iff]

theorem setWindow_entry (t : WindowTable) (i j : Fin 32) (w : Window) :
    (t.set i w)[j] = if i = j then w else t[j] := by
  simp [Vector.getElem_set, Fin.ext_iff]

theorem mapWindows_entry (f : Window → Window) (t : WindowTable) (i : Fin 32) :
    (mapWindows f t)[i] = f t[i] := by
  simp [mapWindows]

theorem clearWindow_entry (t : WindowTable) (i j : Fin 32) :
    (clearWindow t i)[j] = if i = j then { t[i] with valid := false } else t[j] := by
  unfold clearWindow
  rw [setWindow_entry]

theorem clearWindowsOf_entry (t : WindowTable) (b : BayId) (i : Fin 32) :
    (clearWindowsOf t b)[i] = if t[i].servesBay b then { t[i] with valid := false } else t[i] := by
  unfold clearWindowsOf
  rw [mapWindows_entry]

/-! ## The tests of an entry, in numbers -/

theorem Window.legal_iff (w : Window) :
    w.legal = true ↔
      1 ≤ w.granules ∧ w.granules ≤ 4096 ∧ w.upstreamBase % w.space.granule = 0 ∧
      w.upstreamBase + w.size ≤ w.space.upstreamSize ∧ w.bayBase % w.space.granule = 0 ∧
      w.bayBase + w.size ≤ w.space.size := by
  simp [Window.legal, and_assoc]

theorem Window.covers_iff (w : Window) (a : Nat) :
    w.covers a = true ↔ w.upstreamBase ≤ a ∧ a < w.upstreamBase + w.size := by
  simp [Window.covers]

theorem Window.takesPart_iff (w : Window) (port : Bool) :
    w.takesPart port = true ↔ w.valid = true ∧ w.space.isPort = port := by
  simp [Window.takesPart]

theorem Window.overlaps_iff (w v : Window) :
    w.overlaps v = true ↔
      w.space.isPort = v.space.isPort ∧ w.upstreamBase < v.upstreamBase + v.size ∧
      v.upstreamBase < w.upstreamBase + w.size := by
  simp [Window.overlaps, and_assoc]

theorem Window.overlaps_comm (w v : Window) : w.overlaps v = v.overlaps w := by
  rw [Bool.eq_iff_iff, Window.overlaps_iff, Window.overlaps_iff, eq_comm, and_comm (a := w.upstreamBase < _)]

/-- Two windows of one family that cover one address overlap (R5, R18). -/
theorem Window.overlaps_of_covers {w v : Window} {port : Bool} {a : Nat} (hw : w.takesPart port = true)
    (hv : v.takesPart port = true) (cw : w.covers a = true) (cv : v.covers a = true) : w.overlaps v = true := by
  rw [Window.takesPart_iff] at hw hv
  rw [Window.covers_iff] at cw cv
  rw [Window.overlaps_iff]
  exact ⟨hw.2.trans hv.2.symm, by omega, by omega⟩

theorem overlapsOther_iff (t : WindowTable) (i : Fin 32) (w : Window) :
    overlapsOther t i w = true ↔ ∃ j : Fin 32, j ≠ i ∧ t[j].valid = true ∧ w.overlaps t[j] = true := by
  unfold overlapsOther
  simp only [List.any_eq_true, Prod.exists, List.mem_zipIdx_iff_getElem?, Bool.and_eq_true, decide_eq_true_eq]
  constructor
  · rintro ⟨v, j, at_j, ⟨ne, valid⟩, hits⟩
    obtain ⟨lt, rfl⟩ := List.getElem?_eq_some_iff.1 at_j
    have lt : j < 32 := by simpa using lt
    exact ⟨⟨j, lt⟩, fun e => ne (congrArg Fin.val e), by simpa using valid, by simpa using hits⟩
  · rintro ⟨j, ne, valid, hits⟩
    exact ⟨t[j], j, by simp, ⟨fun e => ne (Fin.ext e), valid⟩, hits⟩

/-- The test of WINDOW_WRITE, as R18 says it. -/
theorem writeIsFree_iff (t : WindowTable) (i : Fin 32) (w : Window) :
    (w.valid && overlapsOther t i w) = false ↔
      w.valid = false ∨ ∀ j : Fin 32, j ≠ i → t[j].valid = true → w.overlaps t[j] = false := by
  rw [Bool.and_eq_false_iff, ← Bool.not_eq_true (overlapsOther t i w), overlapsOther_iff]
  simp

/-! ## The law of the table -/

theorem reset_window (i : Fin 32) : State.reset.windows[i] = Window.reset := by
  simp [State.reset]

theorem windowLaw_reset : WindowLaw State.reset.windows := by
  refine ⟨fun i => ?_, fun i j _ valid => ?_⟩
  · rw [reset_window]; decide
  · rw [reset_window] at valid; cases valid

/-- A table whose entries are as they were, or as they were but for valid, which is no (R21 to R23). -/
theorem WindowLaw.cleared {t u : WindowTable} (h : WindowLaw t)
    (entry : ∀ i : Fin 32, u[i] = t[i] ∨ u[i] = { t[i] with valid := false }) : WindowLaw u := by
  obtain ⟨legal, disjoint⟩ := h
  have same : ∀ i : Fin 32, u[i].valid = true → u[i] = t[i] := fun i valid =>
    (entry i).resolve_right (fun e => by rw [e] at valid; cases valid)
  refine ⟨fun i => ?_, fun i j ne vi vj => ?_⟩
  · rcases entry i with e | e <;> rw [e] <;> exact legal i
  · have ei := same i vi
    have ej := same j vj
    rw [ei] at vi ⊢
    rw [ej] at vj ⊢
    exact disjoint i j ne vi vj

theorem WindowLaw.clearWindow {t : WindowTable} (h : WindowLaw t) (i : Fin 32) : WindowLaw (clearWindow t i) := by
  refine h.cleared (fun j => ?_)
  rw [clearWindow_entry]
  split
  next e => exact .inr (by rw [e])
  next => exact .inl rfl

theorem WindowLaw.clearWindowsOf {t : WindowTable} (h : WindowLaw t) (b : BayId) : WindowLaw (clearWindowsOf t b) := by
  refine h.cleared (fun j => ?_)
  rw [clearWindowsOf_entry]
  split
  next => exact .inr rfl
  next => exact .inl rfl

/-- A legal window that overlaps no other valid one takes the place of an entry (R17, R18, R19). -/
theorem WindowLaw.set {t : WindowTable} (h : WindowLaw t) (i : Fin 32) {w : Window} (legal : w.legal = true)
    (free : (w.valid && overlapsOther t i w) = false) : WindowLaw (t.set i w) := by
  have apart : w.valid = true → ∀ j : Fin 32, j ≠ i → t[j].valid = true → w.overlaps t[j] = false := fun valid =>
    ((writeIsFree_iff t i w).1 free).resolve_left (by simp [valid])
  refine ⟨fun j => ?_, fun j k ne vj vk => ?_⟩
  · rw [setWindow_entry]
    split
    next => exact legal
    next => exact h.1 j
  · rw [setWindow_entry] at vj vk ⊢
    rw [setWindow_entry]
    split at vj <;> split at vk
    next ej ek => exact absurd (ej.symm.trans ek) ne
    next ej ek => rw [if_pos ej, if_neg ek]; exact apart vj k (Ne.symm ek) vk
    next ej ek => rw [if_neg ej, if_pos ek, Window.overlaps_comm]; exact apart vk j (Ne.symm ej) vj
    next ej ek => rw [if_neg ej, if_neg ek]; exact h.2 j k ne vj vk

end Sys2Proof.Machine

/-! PROOF. Every step keeps the law of the Window Table (R17, R18), operation by operation. -/

namespace Sys2Proof.Machine

/-! ## The law of the table under the shared operations -/

/-- What the credit check can do: nothing, an overrun, or the rest of intake behind a consumed credit (R147, R148). -/
theorem State.withCredit_induction {P : State → Prop} (s : State) (p : Pool) (next : State → State) (nothing : P s)
    (overrun : P s.overrun) (pass : P (next (s.consumed p))) : P (s.withCredit p next) := by
  unfold State.withCredit
  split
  next =>
    split
    next => exact overrun
    next => exact pass
  next => exact nothing

@[simp] theorem State.consumed_windows (s : State) (p : Pool) : (s.consumed p).windows = s.windows := rfl

theorem State.removalWindowClear_windowLaw {s : State} (h : WindowLaw s.windows) (b : BayId) :
    WindowLaw (s.removalWindowClear b).windows := by
  unfold State.removalWindowClear
  split
  next => exact h.clearWindowsOf b
  next => exact h

/-- A removal changes the table by its window clear alone (R23, R101). -/
theorem State.removeModule_windowLaw {s : State} (h : WindowLaw s.windows) (b : BayId) :
    WindowLaw (s.removeModule b).windows := by
  have purged : WindowLaw ((s.stopEngine b).purge b .gone).windows := by simpa using h
  unfold State.removeModule
  simpa using State.removalWindowClear_windowLaw purged b

theorem State.takeRemoval_windowLaw {s : State} (h : WindowLaw s.windows) (b : BayId) :
    WindowLaw (s.takeRemoval b).windows := by
  unfold State.takeRemoval
  split
  next => exact State.removeModule_windowLaw h b
  next => exact h

theorem State.leaveUp_windowLaw {s : State} (h : WindowLaw s.windows) : WindowLaw s.leaveUp.windows := by
  unfold State.leaveUp
  split
  next => exact windowLaw_reset
  next => simpa using h

theorem State.takeAfterAppend_windowLaw {s : State} (h : WindowLaw s.windows) (m : Meeting) :
    WindowLaw (s.takeAfterAppend m).windows :=
  State.takeAfterAppend_induction (P := fun t => WindowLaw t.windows) s m h (fun _ => h)
    (fun _ => State.leaveUp_windowLaw h) (fun _ _ _ => h)
    (fun _ => State.leaveUp_windowLaw (s := s.setLink s.link.countExhaustion) h)

theorem State.append_windowLaw {s : State} (h : WindowLaw s.windows) (b : BayId) (e : Entry) (m : Meeting) :
    WindowLaw (s.append b e m).windows := by
  unfold State.append
  simpa using State.takeAfterAppend_windowLaw (s := s.setList b ((s.bay b).list ++ [e])) h m

theorem State.overtake_windowLaw {s : State} (h : WindowLaw s.windows) (b : BayId) (m : Meeting) :
    WindowLaw (s.overtake b m).windows := by
  cases m
  case removal => exact State.takeRemoval_windowLaw h b
  all_goals exact h

/-! ## The law of the table at intake -/

theorem State.routeRequest_windowLaw {s : State} (h : WindowLaw s.windows) (k : RequestKind) (f : RequestFields)
    (m : Meeting) : WindowLaw (s.routeRequest k f m).windows := by
  unfold State.routeRequest
  split
  next => simpa using h
  next w _ =>
    have kept := State.overtake_windowLaw h w.bay m
    dsimp only
    split
    next => simpa using kept
    next =>
      split
      next => simpa using kept
      next => exact State.append_windowLaw kept _ _ _

theorem State.intakeRequest_windowLaw {s : State} (h : WindowLaw s.windows) (k : RequestKind)
    (fields : Option RequestFields) (m : Meeting) : WindowLaw (s.intakeRequest k fields m).windows := by
  refine State.withCredit_induction (P := fun t => WindowLaw t.windows) s .request _ h (by simpa using h) ?_
  split
  next => simpa using h
  next f =>
    split
    next => simpa using h
    next =>
      split
      next => simpa using h
      next => exact State.routeRequest_windowLaw (by simpa using h) k f m

theorem State.routeStore_windowLaw {s : State} (h : WindowLaw s.windows) (f : StoreFields) (m : Meeting) :
    WindowLaw (s.routeStore f m).windows := by
  unfold State.routeStore
  split
  next => simpa using h
  next w _ =>
    have kept := State.overtake_windowLaw h w.bay m
    dsimp only
    split
    next => simpa using kept
    next =>
      split
      next => simpa using kept
      next => exact State.append_windowLaw kept _ _ _

theorem State.intakeStore_windowLaw {s : State} (h : WindowLaw s.windows) (fields : Option StoreFields) (m : Meeting) :
    WindowLaw (s.intakeStore fields m).windows := by
  refine State.withCredit_induction (P := fun t => WindowLaw t.windows) s .store _ h (by simpa using h) ?_
  split
  next => simpa using h
  next f =>
    split
    next => simpa using h
    next => exact State.routeStore_windowLaw (by simpa using h) f m

/-! ## The law of the table under the management commands -/

/-- The operands that WINDOW_WRITE accepts describe a legal window (R17). -/
theorem windowWriteOperands_legal {o : List Byte} {i : Fin 32} {w : Window} (h : windowWriteOperands o = some (i, w)) :
    w.legal = true := by
  unfold windowWriteOperands at h
  split at h
  next =>
    split at h
    next =>
      dsimp only at h
      split at h
      next legal =>
        injection h with h
        injection h with hi hw
        exact hw ▸ legal
      next => cases h
    next => cases h
  next => cases h

theorem commandWindowWrite_windowLaw {s : State} (h : WindowLaw s.windows) (o : List Byte) :
    WindowLaw (commandWindowWrite o s).after.windows := by
  unfold commandWindowWrite
  split
  next => exact h
  next i w accepted =>
    split
    next => exact h
    next free => exact h.set i (windowWriteOperands_legal accepted) (by simpa using free)

theorem commandWindowClear_windowLaw {s : State} (h : WindowLaw s.windows) (o : List Byte) :
    WindowLaw (commandWindowClear o s).after.windows := by
  unfold commandWindowClear
  split
  next => exact h
  next i _ => exact h.clearWindow i

theorem commandWindowClearBay_windowLaw {s : State} (h : WindowLaw s.windows) (o : List Byte) :
    WindowLaw (commandWindowClearBay o s).after.windows := by
  unfold commandWindowClearBay
  split
  next => exact h
  next b _ => exact h.clearWindowsOf b

/-- Three commands change the table; the others leave it alone, whatever they answer. -/
theorem commandByCode_windowLaw {s : State} (h : WindowLaw s.windows) (code : Byte) (o : List Byte) :
    WindowLaw (commandByCode code o s).after.windows := by
  apply commandByCode_induction (P := fun r => WindowLaw r.after.windows) s o
  case refuse => exact fun _ => h
  case windowWrite => exact commandWindowWrite_windowLaw h o
  case windowClear => exact commandWindowClear_windowLaw h o
  case windowClearBay => exact commandWindowClearBay_windowLaw h o
  case quiesce => simpa [commandQuiesce_frame] using h
  all_goals
    simp only [commandIdentify, commandWindowRead, commandBayStatus, commandBayPolicy, commandPowerOn,
      commandBayRestart, commandEventRead, commandEventEnable, commandEventClear, commandEventInject,
      commandCountersRead, commandBridgeReset]
    (repeat' split) <;> exact h

/-- A MGMT packet keeps the law if its command does. -/
theorem State.intakeMgmt_windowLaw {s : State} (h : WindowLaw s.windows) (seq : Byte) (command : State → CommandResult)
    (keeps : ∀ u : State, WindowLaw u.windows → WindowLaw (command u).after.windows) :
    WindowLaw (s.intakeMgmt seq command).windows := by
  refine State.withCredit_induction (P := fun t => WindowLaw t.windows) s .mgmt _ h (by simpa using h) ?_
  unfold State.acceptMgmt
  split
  next => exact h
  next => exact keeps _ h

theorem State.intake_windowLaw {s : State} (h : WindowLaw s.windows) (p : Packet) (m : Meeting) :
    WindowLaw (s.intake p m).windows := by
  cases p with
  | fetch f => exact State.intakeRequest_windowLaw h .fetch f m
  | store f => exact State.intakeStore_windowLaw h f m
  | portFetch f => exact State.intakeRequest_windowLaw h .portFetch f m
  | portStore f => exact State.intakeRequest_windowLaw h .portStore f m
  | mgmt seq code o => exact State.intakeMgmt_windowLaw h seq _ (fun _ hu => commandByCode_windowLaw hu code o)
  | mgmtShort => simpa [State.intake] using h
  | unknownKind => simpa [State.intake] using h

/-! ## The law of the table at the end of a cycle -/

theorem State.takeBefore_windowLaw {s : State} (h : WindowLaw s.windows) (b : BayId) (before : BeforeReport) :
    WindowLaw (s.takeBefore b before).windows := by
  cases before with
  | nothing => exact h
  | quiesceCompletion => simpa [State.takeBefore] using h
  | removal => exact State.takeRemoval_windowLaw h b
  | pgoodLoss => simpa [State.takeBefore] using h
  | quiesce seq o =>
    exact State.intakeMgmt_windowLaw h seq _ (fun u hu => by simpa [commandQuiesce_frame] using hu)

theorem State.timeoutRequest_windowLaw {s : State} (h : WindowLaw s.windows) (b : BayId) (before : BeforeReport) :
    WindowLaw (s.timeoutRequest b before).windows := by
  unfold State.timeoutRequest
  split
  next =>
    have finished : WindowLaw (s.finishRequest b .bayTimeout).windows := by simpa using h
    simpa using State.takeBefore_windowLaw finished b before
  next => simpa using h

theorem State.timeoutCycle_windowLaw {s : State} (h : WindowLaw s.windows) (b : BayId) (before : BeforeReport) :
    WindowLaw (s.timeoutCycle b before).windows := by
  have released : WindowLaw (s.releaseBus b).windows := by simpa using h
  unfold State.timeoutCycle
  dsimp only
  split
  next => simpa using h
  next => simpa using h
  next =>
    split
    next => simpa using h
    next => exact State.timeoutRequest_windowLaw released b before

theorem State.takeAck_windowLaw {s : State} (h : WindowLaw s.windows) (n : LinkSeq) :
    WindowLaw (s.takeAck n).windows := by
  unfold State.takeAck
  dsimp only
  split
  next =>
    split
    next => exact windowLaw_reset
    next => exact h
  next => exact h

/-! ## The law of the table under every command -/

/-- Every command keeps the entries legal and the valid windows of a family disjoint. -/
theorem exec_windowLaw (i : Instr) (s t : State) (h : WindowLaw s.windows) (e : exec i s = .next t) :
    WindowLaw t.windows := by
  apply exec_induction (P := fun u => WindowLaw u.windows) s (h := e)
  case reset => exact fun _ _ => windowLaw_reset
  case deferredReset => exact fun _ _ => windowLaw_reset
  case accept => exact fun p m _ => State.intake_windowLaw (s := s.setLink s.link.activity.accept) h p m
  case ackReceived => exact fun n _ => State.takeAck_windowLaw h n
  case leaveUp => exact fun _ => State.leaveUp_windowLaw h
  case exhaustion => exact fun _ => State.leaveUp_windowLaw (s := s.setLink s.link.countExhaustion) h
  case intake => exact State.intake_windowLaw h
  case timeoutCycle => exact fun b _ before _ => State.timeoutCycle_windowLaw h b before
  case removal => exact fun b _ _ => State.removeModule_windowLaw h b
  -- what remains leaves the table alone
  all_goals intros; simpa using h

/-- Settles O53: every command keeps the law, so a step does; the queue holds no window. -/
theorem windowLawIsKept : Obligations.WindowLawIsKept := fun _ _ h e =>
  step_of_exec (P := fun s => WindowLaw s.windows) (fun _ _ h => h) exec_windowLaw h e

end Sys2Proof.Machine

/-! PROOF. The lookup under the law (R4, R5, R10), and the window commands (R19 to R22). -/

namespace Sys2Proof.Machine

/-! ## Lookup and translation -/

/-- Under the law the lookup finds the window that covers the address: no other one does (R4, R5). -/
theorem lookupWindow_eq {t : WindowTable} (h : WindowLaw t) {port : Bool} {a : Nat} {i : Fin 32}
    (part : t[i].takesPart port = true) (covers : t[i].covers a = true) : lookupWindow t port a = some t[i] := by
  unfold lookupWindow
  cases found : t.toList.find? (fun w => w.takesPart port && w.covers a) with
  | none =>
    have misses := List.find?_eq_none.1 found t[i] ((mem_windows_iff t _).2 ⟨i, rfl⟩)
    exact absurd (Bool.and_eq_true_iff.2 ⟨part, covers⟩) misses
  | some w =>
    obtain ⟨j, rfl⟩ := (mem_windows_iff t w).1 (List.mem_of_find?_eq_some found)
    have hits := List.find?_some found
    rw [Bool.and_eq_true] at hits
    have overlap : t[i].overlaps t[j] = true := Window.overlaps_of_covers part hits.1 covers hits.2
    by_cases same : i = j
    · rw [same]
    · have apart := h.2 i j same ((Window.takesPart_iff _ _).1 part).1 ((Window.takesPart_iff _ _).1 hits.1).1
      rw [overlap] at apart
      cases apart

theorem lookupWindow_none {t : WindowTable} {port : Bool} {a : Nat}
    (h : ∀ i : Fin 32, t[i].takesPart port = true → t[i].covers a = false) : lookupWindow t port a = none := by
  refine List.find?_eq_none.2 (fun w mem hits => ?_)
  obtain ⟨i, rfl⟩ := (mem_windows_iff t w).1 mem
  rw [Bool.and_eq_true] at hits
  rw [h i hits.1] at hits
  cases hits.2

/-- The translation moves an address that the window covers from its upstream base to its bay base (R10). -/
theorem Window.translate_moves {w : Window} {a : Nat} (covers : w.covers a = true) :
    (w.translate a).bayAddress + w.upstreamBase = a + w.bayBase := by
  rw [Window.covers_iff] at covers
  simp only [Window.translate]
  omega

/-- A legal window translates into its space (R10, R17). -/
theorem Window.translate_inside {w : Window} {a : Nat} (legal : w.legal = true) (covers : w.covers a = true) :
    (w.translate a).bayAddress < w.space.size := by
  obtain ⟨_, _, _, _, _, inside⟩ := w.legal_iff.1 legal
  have moves := Window.translate_moves covers
  rw [Window.covers_iff] at covers
  omega

/-- Settles O18, from the law's disjointness for the lookup and from its legality for the translation. -/
theorem lookupTranslatesByOneWindow : Obligations.LookupTranslatesByOneWindow := fun _ _ _ law =>
  ⟨fun i part covers =>
    ⟨lookupWindow_eq law part covers, Window.translate_moves covers, Window.translate_inside (law.1 i) covers⟩,
   lookupWindow_none⟩

/-! ## The window commands -/

theorem indexOperand_of {x : Byte} (h : x.toNat < 32) : indexOperand x = some ⟨x.toNat, h⟩ := dif_pos h

/-- An accepted command that is answered DONE (R148, R162, R164): it meets the consumed credit, and leaves a state in
which the credit is consumed. -/
theorem State.intakeMgmt_done {s : State} {q : Byte} (accepts : s.AcceptsMgmt q) (command : State → CommandResult)
    (t : State) (results : List Byte) (done : command (s.consumed .mgmt) = (t.consumed .mgmt).doneWith results) :
    s.intakeMgmt q command = t.responded q .done results := by
  apply State.intakeMgmt_accept accepts <;> rw [done] <;> rfl

/-- WINDOW_WRITE of a window that is not valid, or overlaps no other valid one, replaces the entry (R19). -/
theorem exec_windowWrite_done {s : State} {q : Byte} (accepts : s.AcceptsMgmt q) {o : List Byte} {i : Fin 32}
    {w : Window} (operands : windowWriteOperands o = some (i, w))
    (free : (w.valid && overlapsOther s.windows i w) = false) :
    exec (.windowWrite q o) s = .next ((s.setWindows (s.windows.set i w)).responded q .done []) := by
  refine congrArg _ (State.intakeMgmt_done accepts _ _ _ ?_)
  unfold commandWindowWrite
  rw [operands]
  exact if_neg (by simpa using free)

/-- WINDOW_WRITE of a valid window that overlaps another valid one is refused with OVERLAP (R18). -/
theorem exec_windowWrite_overlap {s : State} {q : Byte} (accepts : s.AcceptsMgmt q) {o : List Byte} {i : Fin 32}
    {w : Window} (operands : windowWriteOperands o = some (i, w))
    (hits : (w.valid && overlapsOther s.windows i w) = true) :
    exec (.windowWrite q o) s = .next (s.responded q .overlap []) := by
  refine congrArg _ (State.intakeMgmt_refuse accepts _ _ ?_)
  unfold commandWindowWrite
  rw [operands]
  exact if_pos hits

theorem exec_windowRead {s : State} {q : Byte} (accepts : s.AcceptsMgmt q) {x : Byte} (h : x.toNat < 32) :
    exec (.windowRead q [x]) s = .next (s.responded q .done (s.windows[x.toNat]'h).resultBytes) := by
  refine congrArg _ (State.intakeMgmt_done accepts _ _ _ ?_)
  simp only [commandWindowRead, oneOperand, indexOperand_of h]
  rfl

theorem exec_windowClear {s : State} {q : Byte} (accepts : s.AcceptsMgmt q) {x : Byte} (h : x.toNat < 32) :
    exec (.windowClear q [x]) s =
      .next ((s.setWindows (clearWindow s.windows ⟨x.toNat, h⟩)).responded q .done []) := by
  refine congrArg _ (State.intakeMgmt_done accepts _ _ _ ?_)
  simp only [commandWindowClear, oneOperand, indexOperand_of h]
  rfl

theorem exec_windowClearBay {s : State} {q : Byte} (accepts : s.AcceptsMgmt q) {x : Byte} {b : BayId}
    (h : x.toNat = b.toNat) :
    exec (.windowClearBay q [x]) s =
      .next ((s.setWindows (clearWindowsOf s.windows b)).responded q .done
        [BitVec.ofNat 8 (countWindowsOf s.windows b)]) := by
  refine congrArg _ (State.intakeMgmt_done accepts _ _ _ ?_)
  simp only [commandWindowClearBay, oneOperand, bayOperand_of h]
  rfl

theorem countWindowsOf_eq (t : WindowTable) (b : BayId) :
    countWindowsOf t b = t.toList.countP (fun w => w.valid && decide (w.bay = b)) :=
  (List.countP_eq_length_filter ..).symm

/-- Clearing a bay's valid windows leaves valid the windows that were and are of another bay (R22). -/
theorem Window.clear_if_servesBay (w : Window) (b : BayId) :
    (if w.servesBay b then { w with valid := false } else w) =
      { w with valid := w.valid && decide (w.bay ≠ b) } := by
  obtain ⟨valid, bay⟩ := w
  cases valid <;> by_cases same : bay = b <;> simp [Window.servesBay, same]

/-- An index out of 0 to 31 is refused (R165, R166). -/
theorem exec_indexRefused {s : State} {q : Byte} (accepts : s.AcceptsMgmt q) {x : Byte} (h : 32 ≤ x.toNat) :
    exec (.windowRead q [x]) s = .next (s.responded q .badOperand []) ∧
    exec (.windowClear q [x]) s = .next (s.responded q .badOperand []) := by
  constructor <;> refine congrArg _ (State.intakeMgmt_refuse accepts _ _ ?_)
  · simp only [commandWindowRead, oneOperand, indexOperand_none h]
  · simp only [commandWindowClear, oneOperand, indexOperand_none h]

theorem exec_windowClearBay_refused {s : State} {q : Byte} (accepts : s.AcceptsMgmt q) {x : Byte} (h : 6 ≤ x.toNat) :
    exec (.windowClearBay q [x]) s = .next (s.responded q .badOperand []) := by
  refine congrArg _ (State.intakeMgmt_refuse accepts _ _ ?_)
  simp only [commandWindowClearBay, oneOperand, bayOperand_none h]

/-- Settles O43, command by command; the overlap test of WINDOW_WRITE is the condition of R18. -/
theorem windowCommandsChangeTable : Obligations.WindowCommandsChangeTable := by
  intro s q accepts
  refine ⟨fun o i w operands => ⟨fun free => ?_, fun valid hits => ?_⟩, fun x h => ⟨?_, ?_⟩, fun x b h => ?_,
    fun x h => exec_indexRefused accepts h, fun x h => exec_windowClearBay_refused accepts h⟩
  · exact exec_windowWrite_done accepts operands ((writeIsFree_iff _ _ _).2 free)
  · exact exec_windowWrite_overlap accepts operands
      (Bool.and_eq_true_iff.2 ⟨valid, (overlapsOther_iff _ _ _).2 hits⟩)
  · exact exec_windowRead accepts h
  · exact exec_windowClear accepts h
  · refine ⟨clearWindowsOf s.windows b, ?_, fun j => ?_⟩
    · rw [exec_windowClearBay accepts h, countWindowsOf_eq]
    · rw [clearWindowsOf_entry, Window.clear_if_servesBay]

end Sys2Proof.Machine

/-! PROOF. The operands of WINDOW_WRITE, byte by byte (R17, R165, R191). -/

namespace Sys2Proof

theorem BayId.toNat_lt (b : BayId) : b.toNat < 6 := by
  cases b <;> decide

theorem BayId.exists_toNat {n : Nat} (h : n < 6) : ∃ b : BayId, b.toNat = n := by
  interval_cases n
  exacts [⟨.b0, rfl⟩, ⟨.b1, rfl⟩, ⟨.b2, rfl⟩, ⟨.b3, rfl⟩, ⟨.b4, rfl⟩, ⟨.b5, rfl⟩]

end Sys2Proof

namespace Sys2Proof.Machine

/-! ## The operand bytes of WINDOW_WRITE, one by one (R191) -/

theorem indexOperand_eq_some {x : Byte} {i : Fin 32} : indexOperand x = some i ↔ i.val = x.toNat := by
  unfold indexOperand
  split
  next => simp [Fin.ext_iff, eq_comm]
  next out => exact ⟨fun h => (by cases h), fun h => absurd (h ▸ i.isLt) out⟩

theorem waitClassOperand_eq_some {x : Byte} {c : Fin 4} : waitClassOperand x = some c ↔ c.val = x.toNat := by
  unfold waitClassOperand
  split
  next => simp [Fin.ext_iff, eq_comm]
  next out => exact ⟨fun h => (by cases h), fun h => absurd (h ▸ c.isLt) out⟩

theorem yesNoOperand_eq_some {x : Byte} {v : Bool} :
    yesNoOperand x = some v ↔ (v = false ∧ x.toNat = 0) ∨ (v = true ∧ x.toNat = 1) := by
  unfold yesNoOperand
  cases v <;> split <;> simp_all

theorem bayOperand_eq_some {x : Byte} {b : BayId} : bayOperand x = some b ↔ b.toNat = x.toNat := by
  refine ⟨fun h => ?_, fun h => bayOperand_of h.symm⟩
  unfold bayOperand BayId.ofNat? at h
  split at h <;> cases h <;> symm <;> assumption

theorem spaceOperand_eq_some {x : Byte} {p : Space} :
    spaceOperand x = some p ↔
      (p = .bulk ∧ x.toNat = 0) ∨ (p = .profile ∧ x.toNat = 1) ∨ (p = .port ∧ x.toNat = 2) := by
  unfold spaceOperand
  cases p <;> split <;> simp_all

theorem widthOperand_eq_some {x : Byte} {w : Width} :
    widthOperand x = some w ↔ (w = .w8 ∧ x.toNat = 8) ∨ (w = .w16 ∧ x.toNat = 16) := by
  unfold widthOperand
  cases w <;> split <;> simp_all

theorem protectOperand_eq_some {x : Byte} {p : Protect} :
    protectOperand x = some p ↔ (p = .writable ∧ x.toNat = 0) ∨ (p = .readOnly ∧ x.toNat = 1) := by
  unfold protectOperand
  cases p <;> split <;> simp_all

/-- The granule, the upstream size and the size of the space that a byte names (R2, R17). -/
theorem spaceOperand_sizes {x : Byte} {granule upstream size : Nat} :
    (∃ p, spaceOperand x = some p ∧ granule = p.granule ∧ upstream = p.upstreamSize ∧ size = p.size) ↔
      (x.toNat = 0 ∧ granule = 4096 ∧ upstream = 2 ^ 48 ∧ size = 2 ^ 24) ∨
      (x.toNat = 1 ∧ granule = 4096 ∧ upstream = 2 ^ 48 ∧ size = 2 ^ 16) ∨
      (x.toNat = 2 ∧ granule = 16 ∧ upstream = 2 ^ 32 ∧ size = 2 ^ 16) := by
  simp only [spaceOperand_eq_some]
  constructor
  · rintro ⟨_, ⟨rfl, code⟩ | ⟨rfl, code⟩ | ⟨rfl, code⟩, sizes⟩
    · exact .inl ⟨code, sizes⟩
    · exact .inr (.inl ⟨code, sizes⟩)
    · exact .inr (.inr ⟨code, sizes⟩)
  · rintro (⟨code, sizes⟩ | ⟨code, sizes⟩ | ⟨code, sizes⟩)
    · exact ⟨.bulk, .inl ⟨rfl, code⟩, sizes⟩
    · exact ⟨.profile, .inr (.inl ⟨rfl, code⟩), sizes⟩
    · exact ⟨.port, .inr (.inr ⟨rfl, code⟩), sizes⟩

/-- A byte in range has a value. -/
theorem yesNoOperand_of {x : Byte} (h : x.toNat < 2) : ∃ v, yesNoOperand x = some v := by
  rcases (by omega : x.toNat = 0 ∨ x.toNat = 1) with code | code
  · exact ⟨false, yesNoOperand_eq_some.2 (.inl ⟨rfl, code⟩)⟩
  · exact ⟨true, yesNoOperand_eq_some.2 (.inr ⟨rfl, code⟩)⟩

theorem protectOperand_of {x : Byte} (h : x.toNat < 2) : ∃ p, protectOperand x = some p := by
  rcases (by omega : x.toNat = 0 ∨ x.toNat = 1) with code | code
  · exact ⟨.writable, protectOperand_eq_some.2 (.inl ⟨rfl, code⟩)⟩
  · exact ⟨.readOnly, protectOperand_eq_some.2 (.inr ⟨rfl, code⟩)⟩

theorem widthOperand_of {x : Byte} (h : x.toNat = 8 ∨ x.toNat = 16) : ∃ w, widthOperand x = some w := by
  rcases h with code | code
  · exact ⟨.w8, widthOperand_eq_some.2 (.inl ⟨rfl, code⟩)⟩
  · exact ⟨.w16, widthOperand_eq_some.2 (.inr ⟨rfl, code⟩)⟩

theorem leNat_two (x0 x1 : Byte) : leNat [x0, x1] = x0.toNat + 256 * x1.toNat := rfl

theorem leNat_four (x0 x1 x2 x3 : Byte) :
    leNat [x0, x1, x2, x3] = x0.toNat + 2 ^ 8 * x1.toNat + 2 ^ 16 * x2.toNat + 2 ^ 24 * x3.toNat := by
  simp only [leNat]
  ring

theorem leNat_eight (x0 x1 x2 x3 x4 x5 x6 x7 : Byte) :
    leNat [x0, x1, x2, x3, x4, x5, x6, x7] =
      x0.toNat + 2 ^ 8 * x1.toNat + 2 ^ 16 * x2.toNat + 2 ^ 24 * x3.toNat + 2 ^ 32 * x4.toNat + 2 ^ 40 * x5.toNat +
        2 ^ 48 * x6.toNat + 2 ^ 56 * x7.toNat := by
  simp only [leNat]
  ring

/-! ## The operand list of WINDOW_WRITE -/

theorem windowWriteOperands_length {o : List Byte} (h : o.length ≠ 21) : windowWriteOperands o = none := by
  unfold windowWriteOperands
  split
  next => exact absurd rfl h
  next => rfl

/-- The window that an accepted operand list describes: its index and fields, each from its own bytes, and legal (R17,
R19, R191). -/
theorem windowWriteOperands_eq_some
    {index valid bay space width waitClass protect s0 s1 u0 u1 u2 u3 u4 u5 u6 u7 b0 b1 b2 b3 : Byte} {i : Fin 32}
    {w : Window} :
    windowWriteOperands
        [index, valid, bay, space, width, waitClass, protect, s0, s1, u0, u1, u2, u3, u4, u5, u6, u7, b0, b1, b2, b3]
        = some (i, w) ↔
      (indexOperand index = some i ∧ yesNoOperand valid = some w.valid ∧ bayOperand bay = some w.bay ∧
        spaceOperand space = some w.space ∧ widthOperand width = some w.width ∧
        waitClassOperand waitClass = some w.waitClass ∧ protectOperand protect = some w.protect) ∧
      w.granules = leNat [s0, s1] ∧ w.upstreamBase = leNat [u0, u1, u2, u3, u4, u5, u6, u7] ∧
      w.bayBase = leNat [b0, b1, b2, b3] ∧ w.legal = true := by
  unfold windowWriteOperands
  dsimp only
  constructor
  · intro h
    split at h
    next hi hv hb hs hw hc hp =>
      split at h
      next legal =>
        injection h with h
        injection h with ei ew
        subst ei ew
        exact ⟨⟨hi, hv, hb, hs, hw, hc, hp⟩, rfl, rfl, rfl, legal⟩
      next => cases h
    next => cases h
  · rintro ⟨⟨hi, hv, hb, hs, hw, hc, hp⟩, granules, upstreamBase, bayBase, legal⟩
    simp only [hi, hv, hb, hs, hw, hc, hp, ← granules, ← upstreamBase, ← bayBase]
    exact if_pos legal

/-- Settles O44: an accepted list is read back field by field, and its bytes are in range exactly when each has a value
and the window is legal. -/
theorem windowWriteChecksEveryField : Obligations.WindowWriteChecksEveryField := by
  refine ⟨fun o => windowWriteOperands_length, ?_⟩
  intro index valid bay space width waitClass protect s0 s1 u0 u1 u2 u3 u4 u5 u6 u7 b0 b1 b2 b3
  refine ⟨⟨?_, ?_⟩, ?_⟩
  · rintro ⟨⟨i, w⟩, accepted⟩
    obtain ⟨⟨hi, hv, hb, hs, hw, hc, hp⟩, granules, upstreamBase, bayBase, legal⟩ :=
      windowWriteOperands_eq_some.1 accepted
    have inRange := w.legal_iff.1 legal
    refine ⟨w.granules, w.upstreamBase, w.bayBase, w.space.granule, w.space.upstreamSize, w.space.size, granules,
      upstreamBase, bayBase, spaceOperand_sizes.1 ⟨w.space, hs, rfl, rfl, rfl⟩, ?_, ?_, ?_, ?_, ?_, ?_, inRange⟩
    · exact indexOperand_eq_some.1 hi ▸ i.isLt
    · rcases yesNoOperand_eq_some.1 hv with ⟨_, code⟩ | ⟨_, code⟩ <;> omega
    · exact bayOperand_eq_some.1 hb ▸ w.bay.toNat_lt
    · exact (widthOperand_eq_some.1 hw).imp And.right And.right
    · exact waitClassOperand_eq_some.1 hc ▸ w.waitClass.isLt
    · rcases protectOperand_eq_some.1 hp with ⟨_, code⟩ | ⟨_, code⟩ <;> omega
  · rintro ⟨n, base, bayBase, granule, upstream, size, rfl, rfl, rfl, sizes, hi, hv, hb, hw, hc, hp, inRange⟩
    obtain ⟨p, hs, rfl, rfl, rfl⟩ := spaceOperand_sizes.2 sizes
    obtain ⟨v, hv⟩ := yesNoOperand_of hv
    obtain ⟨b, hb⟩ := BayId.exists_toNat hb
    obtain ⟨wide, hw⟩ := widthOperand_of hw
    obtain ⟨guard, hp⟩ := protectOperand_of hp
    exact ⟨(⟨index.toNat, hi⟩,
      { valid := v, bay := b, space := p, upstreamBase := leNat [u0, u1, u2, u3, u4, u5, u6, u7],
        granules := leNat [s0, s1], bayBase := leNat [b0, b1, b2, b3], width := wide,
        waitClass := ⟨waitClass.toNat, hc⟩, protect := guard }),
      windowWriteOperands_eq_some.2
        ⟨⟨indexOperand_of hi, hv, bayOperand_eq_some.2 hb, hs, hw, waitClassOperand_eq_some.2 rfl, hp⟩, rfl, rfl, rfl,
          (Window.legal_iff _).2 inRange⟩⟩
  · intro i w accepted
    obtain ⟨⟨hi, hv, hb, hs, hw, hc, hp⟩, granules, upstreamBase, bayBase, _⟩ :=
      windowWriteOperands_eq_some.1 accepted
    refine ⟨indexOperand_eq_some.1 hi, bayOperand_eq_some.1 hb, waitClassOperand_eq_some.1 hc,
      yesNoOperand_eq_some.1 hv, spaceOperand_eq_some.1 hs, widthOperand_eq_some.1 hw, protectOperand_eq_some.1 hp,
      ?_, ?_, ?_⟩
    · rw [granules, leNat_two]
    · rw [upstreamBase, leNat_eight]
    · rw [bayBase, leNat_four]

end Sys2Proof.Machine

/-! PROOF. The values and the laws after reset. -/

namespace Sys2Proof.Machine

/-! ## The resets -/

/-- A reset keeps the levels of a bay's lines, and leaves its engine and its list at their reset values (R50, R75). -/
theorem Bay.afterReset_frame (bay : Bay) :
    bay.afterReset.engine = Engine.reset ∧ bay.afterReset.list = [] ∧ bay.SameLines bay.afterReset := by
  unfold Bay.afterReset Bay.detect
  split <;> exact ⟨rfl, rfl, rfl, rfl, rfl⟩

/-- After a reset a bay without both contacts asserted is EMPTY (R75). -/
theorem Bay.afterReset_life_absent {bay : Bay} (h : bay.present = false) : bay.afterReset.life = Lifecycle.reset := by
  unfold Bay.afterReset Bay.detect
  rw [if_neg]
  · rfl
  · rintro ⟨_, present⟩
    exact absurd (h.symm.trans present) (by decide)

/-- After a reset a bay with both contacts asserted is in SETTLING at once (R75, R77). -/
theorem Bay.afterReset_life_present {bay : Bay} (h : bay.present = true) :
    bay.afterReset.life = { Lifecycle.reset with state := .settling, timer := some .stablePresence } := by
  unfold Bay.afterReset Bay.detect
  rw [if_pos ⟨rfl, h⟩]
  rfl

/-- Settles O3: the blocks are those of `State.reset`, and each bay is the bay after a reset. -/
theorem powerOnResetGivesResetValues : Obligations.PowerOnResetGivesResetValues := by
  intro straps s
  refine ⟨s.resetAll 0 straps, rfl, rfl, rfl, rfl, reset_window, rfl, rfl, rfl, rfl, rfl, fun b => ?_⟩
  rw [State.resetAll_bay]
  obtain ⟨engine, list, presA, presB, pgood⟩ := (s.bay b).afterReset_frame
  exact ⟨engine, list, presA, presB, pgood, Bay.afterReset_life_absent, Bay.afterReset_life_present⟩

/-! ## The laws after reset -/

theorem reset_bay (b : BayId) : State.reset.bay b = Bay.reset := by
  cases b <;> rfl

theorem reset_record (e : EventId) : NoticeUnit.reset.record e = EventRecord.reset := by
  cases e with
  | bay b k => cases b <;> cases k <;> rfl
  | bridge k => cases k <;> rfl

theorem creditLaw_reset : CreditLaw State.reset :=
  ⟨fun up => absurd up (by decide), fun _ => ⟨rfl, rfl, rfl⟩⟩

theorem poolLaw_reset : PoolLaw State.reset := by
  refine ⟨?_, ?_, fun _ => rfl⟩ <;> decide

theorem grantTimerLaw_reset : GrantTimerLaw State.reset.ledger := by
  unfold GrantTimerLaw
  decide

theorem noticeLaw_reset : NoticeLaw State.reset.notice := by
  refine ⟨fun e => ?_, List.nodup_nil, fun r mem => by cases mem⟩
  show (NoticeUnit.reset.record e).Lawful
  rw [reset_record]
  exact ⟨by decide, by decide, fun _ => ⟨rfl, rfl⟩⟩

theorem lifecycleLaw_reset : LifecycleLaw State.reset := by
  intro b
  rw [reset_bay]
  refine ⟨⟨?_, ?_, rfl⟩, ?_⟩
  · unfold Lifecycle.LinesLawful; decide
  · unfold Lifecycle.ItemsLawful; decide
  · unfold Bay.PresenceLawful; decide

theorem bayListLaw_reset : BayListLaw State.reset := by
  intro b
  rw [reset_bay]
  refine ⟨⟨rfl, rfl⟩, ?_, fun e mem => by cases mem⟩
  unfold Engine.CycleLawful
  decide

theorem busLaw_reset : BusLaw State.reset := by
  intro b
  rw [reset_bay]
  exact ⟨fun h => (by cases h), fun ⟨_, driven, _⟩ => (by cases driven)⟩

/-- No request is in use after reset, so no tag is in force (R30). -/
theorem requestLaw_reset : RequestLaw State.reset :=
  ⟨fun _ mem => (by cases mem), List.nodup_nil, fun _ => rfl⟩

theorem linkLaw_reset : LinkLaw State.reset.link := by
  refine ⟨⟨by decide, trivial, fun _ => rfl, by decide, by decide⟩, ?ack, ?timers, ?transmitter, ?counters⟩
  case ack => unfold AckLaw; decide
  case timers => unfold LinkTimerLaw; decide
  case transmitter => unfold TransmitterLaw; decide
  case counters => unfold CounterLaw; decide

theorem starvationLaw_reset : StarvationLaw State.reset :=
  ⟨by decide, fun _ => rfl⟩

theorem mgmtLaw_reset : MgmtLaw State.reset := by
  unfold MgmtLaw
  decide

/-- Settles O52, law by law. -/
theorem resetObeysLaws : Obligations.ResetObeysLaws :=
  ⟨windowLaw_reset, creditLaw_reset, poolLaw_reset, grantTimerLaw_reset, noticeLaw_reset,
    ⟨lifecycleLaw_reset, bayListLaw_reset, busLaw_reset⟩, requestLaw_reset, linkLaw_reset, starvationLaw_reset,
    mgmtLaw_reset⟩

end Sys2Proof.Machine

/-! SUPPORT. The laws of one bay, and how each operation on a bay keeps them (R37, R50, R51, R73 to R78, R99, R100). The
idea is a law with one gap: a bay in service may rest, its engine without work and a QUEUED list behind it, where a start
or a report is due. Operations between an append and its start, and between an end and its report, keep that law. -/

namespace Sys2Proof.Machine

/-! ## The law of one bay -/

/-- The bus carries a cycle of the bay (R56). -/
def Bus.Carries (u : Bus) (b : BayId) : Prop := ∃ c, u.driven = some c ∧ c.bay = b

/-- A bay in service whose engine has no work, with a list that waits for its start. -/
def Bay.Resting (bay : Bay) : Prop :=
  bay.engine.work = .none ∧ bay.engine.state = .idle ∧ bay.life.state.served = true ∧
  ∀ e ∈ bay.list, e.isQueued = true

/-- The laws of bay `b`. Where something is due, the bay may also rest. -/
structure Bay.Lawful (due : Prop) (b : BayId) (bay : Bay) : Prop where
  life : bay.life.Lawful
  presence : bay.PresenceLawful
  engine : bay.EngineLawful ∨ (due ∧ bay.Resting)
  cycle : bay.engine.CycleLawful
  entries : ∀ e ∈ bay.list, e.Lawful b

/-- The laws of all bays and of the bus, where in some bays a start or a report is due. -/
def BaysLaw (due : BayId → Prop) (s : State) : Prop :=
  ∀ b : BayId, (s.bay b).Lawful (due b) b ∧ ((s.bay b).engine.state = .inCycle ↔ s.bus.Carries b)

/-- Nothing is due: the laws as they hold between two events. -/
def NothingDue (_ : BayId) : Prop := False

/-- A start or a report is due in this bay. -/
def DueIn (b c : BayId) : Prop := c = b

/-- Between two events nothing is due. -/
theorem bayLaw_iff {s : State} : BayLaw s ↔ BaysLaw NothingDue s := by
  constructor
  · rintro ⟨lives, lists, bus⟩ b
    obtain ⟨life, presence⟩ := lives b
    obtain ⟨engine, cycle, entries⟩ := lists b
    exact ⟨⟨life, presence, .inl engine, cycle, entries⟩, bus b⟩
  · intro h
    exact ⟨fun b => ⟨(h b).1.life, (h b).1.presence⟩,
      fun b => ⟨(h b).1.engine.resolve_right (fun gap => gap.1), (h b).1.cycle, (h b).1.entries⟩, fun b => (h b).2⟩

theorem Bay.Lawful.mono {due due' : Prop} {b : BayId} {bay : Bay} (h : bay.Lawful due b) (weaker : due → due') :
    bay.Lawful due' b :=
  ⟨h.life, h.presence, h.engine.imp_right (fun gap => ⟨weaker gap.1, gap.2⟩), h.cycle, h.entries⟩

/-! ## The engine -/

/-- An engine without work, and a list, where there is no entry (R37, R51). -/
theorem Bay.engineLawful_empty {bay : Bay} (work : bay.engine.work = .none) (idle : bay.engine.state = .idle)
    (list : bay.list = []) : bay.EngineLawful := by
  unfold Bay.EngineLawful
  rw [work]
  exact ⟨idle, list⟩

theorem Engine.cleared_cycleLawful (e : Engine) : e.cleared.CycleLawful := by
  simp [Engine.CycleLawful, Engine.cleared, Engine.running]

/-- Out of service, and with no profile to be read, the engine has no work and the list is empty (R39, R68). -/
theorem Bay.Lawful.withoutWork {due : Prop} {b : BayId} {bay : Bay} (h : bay.Lawful due b)
    (unserved : bay.life.state.served = false) (unread : bay.life.state = .profiling → bay.life.mrdySeen = false) :
    bay.engine.work = .none ∧ bay.engine.state = .idle ∧ bay.list = [] := by
  rcases h.engine with lawful | ⟨_, _, _, served, _⟩
  · unfold Bay.EngineLawful at lawful
    split at lawful
    next work => exact ⟨work, lawful⟩
    next =>
      obtain ⟨_, served, _⟩ := lawful
      simp [unserved] at served
    next =>
      obtain ⟨_, profiling, seen, _⟩ := lawful
      simp [unread profiling] at seen
  · simp [unserved] at served

/-- In service an empty list leaves the engine without work (R37, R51). -/
theorem Bay.Lawful.withoutWork_of_empty {due : Prop} {b : BayId} {bay : Bay} (h : bay.Lawful due b)
    (served : bay.life.state.served = true) (list : bay.list = []) :
    bay.engine.work = .none ∧ bay.engine.state = .idle := by
  rcases h.engine with lawful | ⟨_, work, idle, _⟩
  · unfold Bay.EngineLawful at lawful
    split at lawful
    next work => exact ⟨work, lawful.1⟩
    next =>
      obtain ⟨_, _, head, rest, cons, _⟩ := lawful
      simp [list] at cons
    next =>
      obtain ⟨_, profiling, _⟩ := lawful
      simp [profiling, BayState.served] at served
  · exact ⟨work, idle⟩

/-- In the other states the list is empty (R39). -/
theorem Bay.Lawful.list_unserved {due : Prop} {b : BayId} {bay : Bay} (h : bay.Lawful due b)
    (unserved : bay.life.state.served = false) : bay.list = [] := by
  rcases h.engine with lawful | ⟨_, _, _, served, _⟩
  · unfold Bay.EngineLawful at lawful
    split at lawful
    next => exact lawful.2
    next =>
      obtain ⟨_, served, _⟩ := lawful
      simp [unserved] at served
    next => exact lawful.2.2.2
  · simp [unserved] at served

/-- A bay without work and without entries keeps its laws wherever its controller goes lawfully. -/
theorem Bay.Lawful.moved {due due' : Prop} {b : BayId} {bay new : Bay} (h : bay.Lawful due b)
    (idle : bay.engine.work = .none ∧ bay.engine.state = .idle ∧ bay.list = []) (life : new.life.Lawful)
    (presence : new.PresenceLawful) (engine : new.engine = bay.engine) (list : new.list = bay.list) :
    new.Lawful due' b := by
  obtain ⟨work, state, empty⟩ := idle
  refine ⟨life, presence, .inl (Bay.engineLawful_empty ?_ ?_ ?_), ?_, ?_⟩
  · rw [engine, work]
  · rw [engine, state]
  · rw [list, empty]
  · rw [engine]; exact h.cycle
  · rw [list]; exact h.entries

/-- A bay whose engine was cleared and whose list was emptied keeps its laws wherever its controller goes lawfully. -/
theorem Bay.lawful_cleared {due : Prop} {b : BayId} {new : Bay} {e : Engine} (life : new.life.Lawful)
    (presence : new.PresenceLawful) (engine : new.engine = e.cleared) (list : new.list = []) : new.Lawful due b := by
  refine ⟨life, presence, .inl (Bay.engineLawful_empty ?_ ?_ list), ?_, ?_⟩
  · rw [engine]; rfl
  · rw [engine]; rfl
  · rw [engine]; exact e.cleared_cycleLawful
  · simp [list]

/-- A bay in which the controller keeps its state, MRDY seen, and its laws (R73). -/
theorem Bay.Lawful.sameState {due : Prop} {b : BayId} {bay new : Bay} (h : bay.Lawful due b) (life : new.life.Lawful)
    (presence : new.PresenceLawful) (state : new.life.state = bay.life.state)
    (mrdySeen : new.life.mrdySeen = bay.life.mrdySeen) (engine : new.engine = bay.engine)
    (list : new.list = bay.list) : new.Lawful due b := by
  refine ⟨life, presence, ?_, ?_, ?_⟩
  · have kept := h.engine
    unfold Bay.EngineLawful Bay.Resting at kept ⊢
    rwa [engine, list, state, mrdySeen]
  · rw [engine]; exact h.cycle
  · rw [list]; exact h.entries

/-! ## The controller -/

/-- A module seen and sampled: the class is set from the end of IDENTIFYING on (R79). -/
theorem Lifecycle.Lawful.classified {l : Lifecycle} (h : l.Lawful) (filtered : l.state.filtered = true)
    (identified : l.state ≠ .identifying) : l.moduleClass.isSome = true := by
  obtain ⟨_, ⟨_, _, _, _, _, classified⟩, _⟩ := h
  exact classified filtered identified

/-- Presence speaks of the contacts, the filter and whether the filter is in use, from IDENTIFYING on (R99, R100). -/
theorem Bay.PresenceLawful.filtered {bay new : Bay} (h : bay.PresenceLawful) (was : bay.life.state.filtered = true)
    (is : new.life.state.filtered = true) (filter : new.life.filter = bay.life.filter)
    (present : new.present = bay.present) : new.PresenceLawful := by
  obtain ⟨_, _, timed⟩ := h
  refine ⟨fun _ empty => ?_, fun settling => ?_, fun _ => ?_⟩
  · simp [empty, BayState.filtered] at is
  · simp [settling, BayState.filtered] at is
  · rw [filter, present]; exact timed was

/-- Presence speaks of the contacts, the state and the filter alone. -/
theorem Bay.PresenceLawful.congr {bay new : Bay} (h : bay.PresenceLawful) (state : new.life.state = bay.life.state)
    (filter : new.life.filter = bay.life.filter) (present : new.present = bay.present) : new.PresenceLawful := by
  unfold Bay.PresenceLawful at h ⊢
  rwa [state, filter, present]

theorem Bay.detect_life (bay : Bay) :
    bay.detect.life =
      if bay.life.state = .empty ∧ bay.present = true then
        { bay.life with state := .settling, timer := some .stablePresence }
      else bay.life := by
  unfold Bay.detect
  split <;> rfl

theorem Bay.detect_rest (bay : Bay) :
    bay.detect.engine = bay.engine ∧ bay.detect.list = bay.list ∧ bay.detect.present = bay.present := by
  unfold Bay.detect
  split <;> exact ⟨rfl, rfl, rfl⟩

/-- The law of a controller, item by item (R73, R74, R76). -/
theorem Lifecycle.lawful_iff (l : Lifecycle) :
    l.Lawful ↔
      ((l.supply ≠ .none ↔ l.state.powered = true) ∧ (l.mrstAsserted = false ↔ l.state.mrstReleased = true) ∧
        l.lamp = l.state.lamp) ∧
      ((l.phase.isSome = true ↔ l.state = .powering) ∧ (l.faultReason.isSome = true ↔ l.state = .faulted) ∧
        (l.summary.isSome = true ↔ l.state.served = true) ∧ (l.quiesceMode.isSome = true ↔ l.state = .quiescing) ∧
        (l.state.filtered = false → l.filter = .idle ∧ l.moduleClass = none) ∧
        (l.state.filtered = true → l.state ≠ .identifying → l.moduleClass.isSome = true)) ∧
      l.timer = l.ownTimer := Iff.rfl

/-- EMPTY to SETTLING (R77). -/
theorem Lifecycle.Lawful.settling {l : Lifecycle} (h : l.Lawful) (state : l.state = .empty) :
    Lifecycle.Lawful { l with state := .settling, timer := some .stablePresence } := by
  rw [Lifecycle.lawful_iff] at h ⊢
  simp_all [Lifecycle.ownTimer, BayState.powered, BayState.mrstReleased, BayState.lamp, BayState.served,
    BayState.filtered]

/-- SETTLING to EMPTY (R78). -/
theorem Lifecycle.Lawful.unsettled {l : Lifecycle} (h : l.Lawful) (state : l.state = .settling) :
    Lifecycle.Lawful { l with state := .empty, timer := none } := by
  rw [Lifecycle.lawful_iff] at h ⊢
  simp_all [Lifecycle.ownTimer, BayState.powered, BayState.mrstReleased, BayState.lamp, BayState.served,
    BayState.filtered]

/-- The filter starts and stops while it is in use (R100). -/
theorem Lifecycle.Lawful.filtering {l : Lifecycle} (h : l.Lawful) (filtered : l.state.filtered = true) (f : Filter) :
    Lifecycle.Lawful { l with filter := f } := by
  rw [Lifecycle.lawful_iff] at h ⊢
  simp_all [Lifecycle.ownTimer]

/-- SETTLING, FAULTED or QUIESCED to IDENTIFYING (R78, R93). -/
theorem Lifecycle.Lawful.identifying {l : Lifecycle} (h : l.Lawful)
    (state : l.state = .settling ∨ l.state = .faulted ∨ l.state = .quiesced) (f : Filter) :
    Lifecycle.Lawful
      { l with state := .identifying, timer := some .senseSettle, faultReason := none, lamp := .off, filter := f } := by
  rw [Lifecycle.lawful_iff] at h ⊢
  rcases state with state | state | state <;>
    simp_all [Lifecycle.ownTimer, BayState.powered, BayState.mrstReleased, BayState.lamp, BayState.served,
      BayState.filtered]

/-- IDENTIFYING to UNPOWERED, with the class set (R79, R80). -/
theorem Lifecycle.Lawful.unpowered {l : Lifecycle} (h : l.Lawful) (state : l.state = .identifying) (c : ModuleClass) :
    Lifecycle.Lawful { l with moduleClass := some c, timer := none, state := .unpowered } := by
  rw [Lifecycle.lawful_iff] at h ⊢
  simp_all [Lifecycle.ownTimer, BayState.powered, BayState.mrstReleased, BayState.lamp, BayState.served,
    BayState.filtered]

/-- IDENTIFYING with the class set, UNPOWERED or QUIESCED to POWERING (R80, R81, R82). -/
theorem Lifecycle.Lawful.powering {l : Lifecycle} (h : l.Lawful)
    (state : l.state = .identifying ∨ l.state = .unpowered ∨ l.state = .quiesced) {c : Option ModuleClass}
    (classified : c.isSome = true) {supply : Supply} (on : supply ≠ .none) :
    Lifecycle.Lawful
      { l with moduleClass := c, state := .powering, supply := supply, phase := some .awaitingPgood,
               timer := some .powerGoodWait, lamp := .off, mrstAsserted := true } := by
  rw [Lifecycle.lawful_iff] at h ⊢
  rcases state with state | state | state <;>
    simp_all [Lifecycle.ownTimer, BayState.powered, BayState.mrstReleased, BayState.lamp, BayState.served,
      BayState.filtered]

/-- POWERING: PGOOD has arrived (R82). -/
theorem Lifecycle.Lawful.pgoodArrived {l : Lifecycle} (h : l.Lawful) (state : l.state = .powering) :
    l.pgoodArrived.Lawful := by
  rw [Lifecycle.lawful_iff] at h ⊢
  simp_all [Lifecycle.pgoodArrived, Lifecycle.ownTimer]

/-- POWERING to RESETTING (R82, R84). -/
theorem Lifecycle.Lawful.resetting {l : Lifecycle} (h : l.Lawful) (state : l.state = .powering) :
    Lifecycle.Lawful { l with state := .resetting, phase := none, timer := some .moduleReset } := by
  rw [Lifecycle.lawful_iff] at h ⊢
  simp_all [Lifecycle.ownTimer, BayState.powered, BayState.mrstReleased, BayState.lamp, BayState.served,
    BayState.filtered]

/-- RESETTING to PROFILING (R84). -/
theorem Lifecycle.Lawful.released {l : Lifecycle} (h : l.Lawful) (state : l.state = .resetting) :
    l.released.Lawful := by
  rw [Lifecycle.lawful_iff] at h ⊢
  simp_all [Lifecycle.released, Lifecycle.ownTimer, BayState.powered, BayState.mrstReleased, BayState.lamp,
    BayState.served, BayState.filtered]

/-- PROFILING: MRDY has arrived (R85). -/
theorem Lifecycle.Lawful.mrdyArrived {l : Lifecycle} (h : l.Lawful) (state : l.state = .profiling) :
    Lifecycle.Lawful { l with mrdySeen := true, timer := none } := by
  rw [Lifecycle.lawful_iff] at h ⊢
  simp_all [Lifecycle.ownTimer]

/-- PROFILING to READY (R88, R89). -/
theorem Lifecycle.Lawful.ready {l : Lifecycle} (h : l.Lawful) (state : l.state = .profiling) (p : ProfileSummary) :
    Lifecycle.Lawful { l with state := .ready, summary := some p, timer := none } := by
  rw [Lifecycle.lawful_iff] at h ⊢
  simp_all [Lifecycle.ownTimer, BayState.powered, BayState.mrstReleased, BayState.lamp, BayState.served,
    BayState.filtered]

/-- READY or QUIESCING to QUIESCING in a mode (R108, R110). -/
theorem Lifecycle.Lawful.quiescing {l : Lifecycle} (h : l.Lawful) (served : l.state.served = true) (m : QuiesceMode) :
    Lifecycle.Lawful { l with state := .quiescing, quiesceMode := some m } := by
  rw [Lifecycle.lawful_iff] at h ⊢
  have state : l.state = .ready ∨ l.state = .quiescing := by cases e : l.state <;> simp_all [BayState.served]
  rcases state with state | state <;>
    simp_all [Lifecycle.ownTimer, BayState.powered, BayState.mrstReleased, BayState.lamp, BayState.served,
      BayState.filtered]

/-- FAULTED, from any state with the class set (R92). -/
theorem Lifecycle.lawful_faulted {l : Lifecycle} (classified : l.moduleClass.isSome = true) (r : FaultReason) :
    Lifecycle.Lawful { l.poweredDown with state := .faulted, faultReason := some r, lamp := .blinking } := by
  rw [Lifecycle.lawful_iff]
  simp [classified, Lifecycle.poweredDown, Lifecycle.ownTimer, BayState.powered, BayState.mrstReleased, BayState.lamp,
    BayState.served, BayState.filtered]

/-- QUIESCED, from any state with the class set, whatever MRDY seen is (R112, R113). -/
theorem Lifecycle.lawful_quiesced {l : Lifecycle} (classified : l.moduleClass.isSome = true) (seen : Bool) :
    Lifecycle.Lawful { l.quiescedNow with mrdySeen := seen } := by
  rw [Lifecycle.lawful_iff]
  simp [classified, Lifecycle.quiescedNow, Lifecycle.poweredDown, Lifecycle.ownTimer, BayState.powered,
    BayState.mrstReleased, BayState.lamp, BayState.served, BayState.filtered]

/-- EMPTY, from any state (R101). -/
theorem Lifecycle.lawful_emptied (l : Lifecycle) :
    Lifecycle.Lawful
      { l.poweredDown with
        state := .empty, faultReason := none, moduleClass := none, lamp := .off, filter := .idle } := by
  rw [Lifecycle.lawful_iff]
  simp [Lifecycle.poweredDown, Lifecycle.ownTimer, BayState.powered, BayState.mrstReleased, BayState.lamp,
    BayState.served, BayState.filtered]

/-! ## The contacts -/

/-- A bay is EMPTY, in SETTLING, or between IDENTIFYING and its removal (R73, R99). -/
theorem BayState.phases (x : BayState) : x = .empty ∨ x = .settling ∨ x.filtered = true := by
  cases x <;> simp [BayState.filtered]

theorem BayState.filtered_iff (x : BayState) : x.filtered = true ↔ x ≠ .empty ∧ x ≠ .settling := by
  cases x <;> simp [BayState.filtered]

@[simp] theorem Bay.setContact_rest (bay : Bay) (c : Contact) (level : Bool) :
    (bay.setContact c level).life = bay.life ∧ (bay.setContact c level).engine = bay.engine ∧
    (bay.setContact c level).list = bay.list := by
  cases c <;> exact ⟨rfl, rfl, rfl⟩

theorem Bay.present_of_asserted {bay : Bay} (c : Contact) (h : bay.present = true) :
    (bay.setContact c true).present = true := by
  cases c <;> simp_all [Bay.present, Bay.setContact]

theorem Bay.absent_of_deasserted (bay : Bay) (c : Contact) : (bay.setContact c false).present = false := by
  cases c <;> simp [Bay.present, Bay.setContact]

theorem Bay.contactAsserted_rest (bay : Bay) (c : Contact) :
    (bay.contactAsserted c).engine = bay.engine ∧ (bay.contactAsserted c).list = bay.list := by
  obtain ⟨_, engine, list⟩ := bay.setContact_rest c true
  obtain ⟨engine', list', _⟩ := (bay.setContact c true).detect_rest
  unfold Bay.contactAsserted
  dsimp only
  split <;> exact ⟨engine'.trans engine, list'.trans list⟩

theorem Bay.contactDeasserted_rest (bay : Bay) (c : Contact) :
    (bay.contactDeasserted c).engine = bay.engine ∧ (bay.contactDeasserted c).list = bay.list := by
  unfold Bay.contactDeasserted
  dsimp only
  (repeat' split) <;> simp

/-- A contact is asserted: EMPTY may enter SETTLING, and the filter stops when both have returned (R77, R100). -/
theorem Bay.Lawful.contactAsserted {due : Prop} {b : BayId} {bay : Bay} (h : bay.Lawful due b) (c : Contact) :
    (bay.contactAsserted c).Lawful due b := by
  obtain ⟨engine, list⟩ := bay.contactAsserted_rest c
  obtain ⟨_, settled, timed⟩ := h.presence
  by_cases present : (bay.setContact c true).present = true
  · rcases bay.life.state.phases with empty | settling | filtered
    · have idle := h.withoutWork (by simp [empty, BayState.served]) (by simp [empty])
      have result : bay.contactAsserted c =
          { bay.setContact c true with
            life := { bay.life with state := .settling, timer := some .stablePresence } } := by
        simp [Bay.contactAsserted, Bay.detect, empty, present, BayState.filtered]
      refine h.moved idle ?_ ⟨?_, ?_, ?_⟩ engine list <;> rw [result]
      · exact h.life.settling empty
      · simp
      · exact fun _ => present
      · simp [BayState.filtered]
    · have result : bay.contactAsserted c = bay.setContact c true := by
        simp [Bay.contactAsserted, Bay.detect, settling, BayState.filtered]
      rw [result] at engine list ⊢
      refine h.sameState ?_ ⟨?_, ?_, ?_⟩ ?_ ?_ engine list <;> simp [settling, present, BayState.filtered, h.life]
    · obtain ⟨notEmpty, notSettling⟩ := (BayState.filtered_iff _).1 filtered
      have result : bay.contactAsserted c =
          { bay.setContact c true with life := { bay.life with filter := .idle } } := by
        simp [Bay.contactAsserted, Bay.detect, notEmpty, filtered, present]
      refine h.sameState ?_ ⟨?_, ?_, ?_⟩ ?_ ?_ engine list <;> rw [result]
      · exact h.life.filtering filtered .idle
      · exact fun _ => notEmpty
      · exact fun e => absurd e notSettling
      · exact fun _ => ⟨fun e => (by cases e), fun e => absurd (e.symm.trans present) (by decide)⟩
  · have absent : bay.present = false :=
      Bool.eq_false_iff.2 (fun both => present (Bay.present_of_asserted c both))
    have result : bay.contactAsserted c = bay.setContact c true := by
      simp [Bay.contactAsserted, Bay.detect, present]
    rw [result] at engine list ⊢
    refine h.sameState ?_ ⟨?_, ?_, ?_⟩ ?_ ?_ engine list <;> simp_all [h.life]

/-- A contact is deasserted: SETTLING returns to EMPTY, and the filter starts (R78, R100). -/
theorem Bay.Lawful.contactDeasserted {due : Prop} {b : BayId} {bay : Bay} (h : bay.Lawful due b) (c : Contact) :
    (bay.contactDeasserted c).Lawful due b := by
  obtain ⟨engine, list⟩ := bay.contactDeasserted_rest c
  have absent := bay.absent_of_deasserted c
  rcases bay.life.state.phases with empty | settling | filtered
  · have result : bay.contactDeasserted c = bay.setContact c false := by
      simp [Bay.contactDeasserted, empty, BayState.filtered]
    rw [result] at engine list ⊢
    refine h.sameState ?_ ⟨?_, ?_, ?_⟩ ?_ ?_ engine list <;> simp [empty, absent, BayState.filtered, h.life]
  · have idle := h.withoutWork (by simp [settling, BayState.served]) (by simp [settling])
    have result : bay.contactDeasserted c =
        { bay.setContact c false with life := { bay.life with state := .empty, timer := none } } := by
      simp [Bay.contactDeasserted, settling]
    refine h.moved idle ?_ ⟨?_, ?_, ?_⟩ engine list <;> rw [result]
    · exact h.life.unsettled settling
    · exact fun present => absurd (absent.symm.trans present) (by decide)
    · simp
    · simp [BayState.filtered]
  · obtain ⟨notEmpty, notSettling⟩ := (BayState.filtered_iff _).1 filtered
    have result : bay.contactDeasserted c =
        { bay.setContact c false with life := { bay.life with filter := .timing } } := by
      simp [Bay.contactDeasserted, notSettling, filtered]
    refine h.sameState ?_ ⟨?_, ?_, ?_⟩ ?_ ?_ engine list <;> rw [result]
    · exact h.life.filtering filtered .timing
    · exact fun _ => notEmpty
    · exact fun e => absurd e notSettling
    · exact fun _ => ⟨fun _ => absent, fun _ => rfl⟩

/-! ## The bus -/

@[simp] theorem State.releaseBus_carries (s : State) (b c : BayId) :
    (s.releaseBus b).bus.Carries c ↔ b ≠ c ∧ s.bus.Carries c := by
  obtain ⟨_, free, others⟩ := s.releaseBus_spec b
  constructor
  · rintro ⟨d, driven, own⟩
    have ne : d.bay ≠ b := free d driven
    refine ⟨fun e => ne (own.trans e.symm), d, ?_, own⟩
    unfold State.releaseBus at driven
    split at driven
    next d' was =>
      split at driven
      next => cases driven
      next => exact driven
    next => exact driven
  · rintro ⟨ne, d, driven, own⟩
    exact ⟨d, others d (fun e => ne (e.symm.trans own)) driven, own⟩

@[simp] theorem State.stopEngine_bus (s : State) (b : BayId) : (s.stopEngine b).bus = (s.releaseBus b).bus := rfl

@[simp] theorem State.enterFaulted_bus (s : State) (b : BayId) (r : FaultReason) :
    (s.enterFaulted b r).bus = (s.releaseBus b).bus := by
  simp [State.enterFaulted]

@[simp] theorem State.removeModule_bus (s : State) (b : BayId) : (s.removeModule b).bus = (s.releaseBus b).bus := by
  simp [State.removeModule]

@[simp] theorem State.quiesceAtOnce_bus (s : State) (b : BayId) : (s.quiesceAtOnce b).bus = (s.releaseBus b).bus := by
  simp [State.quiesceAtOnce]

/-! ## The laws of all bays -/

/-- The laws of the bays but one, which an operation has under way. -/
def OthersLaw (due : BayId → Prop) (b : BayId) (s : State) : Prop :=
  ∀ c : BayId, b ≠ c → (s.bay c).Lawful (due c) c ∧ ((s.bay c).engine.state = .inCycle ↔ s.bus.Carries c)

section
variable {due due' : BayId → Prop} {s t : State} {b : BayId}

/-- The laws speak of the bays and of the bus alone. -/
theorem BaysLaw.congr (h : BaysLaw due s) (bays : t.bays = s.bays) (bus : t.bus = s.bus) : BaysLaw due t := by
  intro c
  have same : t.bay c = s.bay c := congrArg (fun p => p.get c) bays
  rw [same, bus]
  exact h c

/-- One bay changes, and the bus carries the other bays' cycles as before. -/
theorem OthersLaw.ofBay (h : OthersLaw due b s) (bays : ∀ c, b ≠ c → t.bay c = s.bay c)
    (bus : ∀ c, b ≠ c → (t.bus.Carries c ↔ s.bus.Carries c)) : OthersLaw due b t := by
  intro c ne
  rw [bays c ne, bus c ne]
  exact h c ne

theorem OthersLaw.updLife (h : OthersLaw due b s) (f : Lifecycle → Lifecycle) : OthersLaw due b (s.updLife b f) :=
  h.ofBay (fun c ne => by simp [ne]) (fun _ _ => Iff.rfl)

theorem OthersLaw.updEngine (h : OthersLaw due b s) (f : Engine → Engine) : OthersLaw due b (s.updEngine b f) :=
  h.ofBay (fun c ne => by simp [ne]) (fun _ _ => Iff.rfl)

theorem OthersLaw.setList (h : OthersLaw due b s) (l : List Entry) : OthersLaw due b (s.setList b l) :=
  h.ofBay (fun c ne => by simp [ne]) (fun _ _ => Iff.rfl)

theorem BaysLaw.others (h : BaysLaw due s) (b : BayId) : OthersLaw due b s := fun c _ => h c

theorem OthersLaw.mono (h : OthersLaw due b s) (weaker : ∀ c, b ≠ c → due c → due' c) : OthersLaw due' b s :=
  fun c ne => ⟨(h c ne).1.mono (weaker c ne), (h c ne).2⟩

/-- One bay changes lawfully, and the bus carries the other bays' cycles as before. -/
theorem OthersLaw.complete (h : OthersLaw due b s) {x : Bay} (bays : ∀ c, t.bay c = if b = c then x else s.bay c)
    (bus : ∀ c, b ≠ c → (t.bus.Carries c ↔ s.bus.Carries c)) (lawful : x.Lawful (due b) b)
    (own : x.engine.state = .inCycle ↔ t.bus.Carries b) : BaysLaw due t := by
  intro c
  rw [bays]
  split
  next e => subst e; exact ⟨lawful, own⟩
  next ne => rw [bus c ne]; exact h c ne

/-- One bay changes lawfully, its engine is in no cycle, and the bus is free of it. -/
theorem OthersLaw.complete_free (h : OthersLaw due b s) {x : Bay}
    (bays : ∀ c, t.bay c = if b = c then x else s.bay c) (bus : ∀ c, t.bus.Carries c ↔ b ≠ c ∧ s.bus.Carries c)
    (lawful : x.Lawful (due b) b) (out : x.engine.state ≠ .inCycle) : BaysLaw due t :=
  h.complete bays (fun c ne => by simp [bus, ne]) lawful (by simp [bus, out])

/-- One bay changes lawfully, and its engine is in a cycle, or not, as before. -/
theorem BaysLaw.ofBay (h : BaysLaw due s) {x : Bay} (bays : ∀ c, t.bay c = if b = c then x else s.bay c)
    (bus : t.bus = s.bus) (lawful : x.Lawful (due b) b)
    (engine : x.engine.state = .inCycle ↔ (s.bay b).engine.state = .inCycle) : BaysLaw due t :=
  (h.others b).complete bays (fun c _ => by rw [bus]) lawful (by rw [engine, bus]; exact (h b).2)

/-! ## The controller and its events -/

theorem BaysLaw.contactAsserted (h : BaysLaw due s) (c : Contact) :
    BaysLaw due (s.setBay b ((s.bay b).contactAsserted c)) :=
  h.ofBay (s.setBay_bay b · _) rfl ((h b).1.contactAsserted c) (by rw [((s.bay b).contactAsserted_rest c).1])

theorem BaysLaw.contactDeasserted (h : BaysLaw due s) (c : Contact) :
    BaysLaw due (s.setBay b ((s.bay b).contactDeasserted c)) :=
  h.ofBay (s.setBay_bay b · _) rfl ((h b).1.contactDeasserted c) (by rw [((s.bay b).contactDeasserted_rest c).1])

/-- No law names the level of PGOOD (log 8). -/
theorem BaysLaw.setPgood (h : BaysLaw due s) (level : Bool) : BaysLaw due (s.setPgood b level) :=
  h.ofBay (s.setPgood_bay b · level) rfl
    ((h b).1.sameState (h b).1.life ((h b).1.presence.congr rfl rfl rfl) rfl rfl rfl rfl) Iff.rfl

/-- IDENTIFYING is entered from SETTLING, FAULTED or QUIESCED (R78, R93). -/
theorem BaysLaw.enterIdentifying (h : BaysLaw due s)
    (state : (s.bay b).life.state = .settling ∨ (s.bay b).life.state = .faulted ∨ (s.bay b).life.state = .quiesced) :
    BaysLaw due (s.setBay b (s.bay b).enterIdentifying) := by
  have lawful := (h b).1
  have timed : (s.bay b).filterAtEntry = .timing ↔ (s.bay b).present = false := by
    unfold Bay.filterAtEntry
    split
    next present =>
      rcases state with state | state
      · have unfiltered := lawful.life
        rw [Lifecycle.lawful_iff] at unfiltered
        simp_all [BayState.filtered]
      · obtain ⟨_, _, timed⟩ := lawful.presence
        refine timed ?_
        rcases state with state | state <;> rw [state] <;> rfl
    next absent => simpa using absent
  refine h.ofBay (s.setBay_bay b · _) rfl (lawful.moved (lawful.withoutWork ?_ ?_) ?_ ?_ rfl rfl) Iff.rfl
  · rcases state with state | state | state <;> rw [state] <;> rfl
  · rcases state with state | state | state <;> rw [state] <;> intro e <;> cases e
  · exact lawful.life.identifying state _
  · refine ⟨fun _ e => ?_, fun e => ?_, fun _ => timed⟩ <;> cases e

/-- The bay faults. Of its laws only the class and the timed contacts are asked for (R92). -/
theorem OthersLaw.enterFaulted (h : OthersLaw due b s) (filtered : (s.bay b).life.state.filtered = true)
    (presence : (s.bay b).PresenceLawful) (classified : (s.bay b).life.moduleClass.isSome = true) (r : FaultReason) :
    BaysLaw due (s.enterFaulted b r) :=
  h.complete_free (s.enterFaulted_bay b · r) (by simp)
    (Bay.lawful_cleared (Lifecycle.lawful_faulted classified r) (presence.filtered filtered rfl rfl rfl) rfl rfl)
    (by simp [Bay.faulted, Engine.cleared])

theorem BaysLaw.enterFaulted (h : BaysLaw due s) (filtered : (s.bay b).life.state.filtered = true)
    (identified : (s.bay b).life.state ≠ .identifying) (r : FaultReason) : BaysLaw due (s.enterFaulted b r) :=
  (h.others b).enterFaulted filtered (h b).1.presence ((h b).1.life.classified filtered identified) r

/-- A removal asks for no law of its bay (R101). -/
theorem OthersLaw.removeModule (h : OthersLaw due b s) : BaysLaw due (s.removeModule b) := by
  obtain ⟨engine, list, present⟩ := (s.bay b).emptied.detect_rest
  have life := Lifecycle.lawful_emptied (s.bay b).life
  refine h.complete_free (s.removeModule_bay b ·) (by simp) (Bay.lawful_cleared ?_ ?_ engine list) ?_
  · rw [Bay.detect_life]
    split
    next => exact life.settling rfl
    next => exact life
  · rw [Bay.PresenceLawful, present, Bay.detect_life]
    split
    next c => exact ⟨fun _ e => (by cases e), fun _ => c.2, fun e => (by cases e)⟩
    next c => exact ⟨fun p _ => c ⟨rfl, p⟩, fun e => (by cases e), fun e => (by cases e)⟩
  · rw [engine]
    exact fun e => (by cases e)

/-- POWERING is entered from IDENTIFYING with the class just set, from UNPOWERED or from QUIESCED (R80, R81, R82). -/
theorem Bay.Lawful.enterPowering {p : Prop} {bay : Bay} (h : bay.Lawful p b)
    (state : bay.life.state = .identifying ∨ bay.life.state = .unpowered ∨ bay.life.state = .quiesced)
    {c : Option ModuleClass} (classified : c.isSome = true) (timer : Option LifecycleTimer) {supply : Supply}
    (on : supply ≠ .none) :
    (Bay.enterPowering { bay with life := { bay.life with moduleClass := c, timer := timer } } supply).Lawful p b := by
  have filtered : bay.life.state.filtered = true := by rcases state with e | e | e <;> rw [e] <;> rfl
  have idle := h.withoutWork (by rcases state with e | e | e <;> rw [e] <;> rfl)
    (by rcases state with e | e | e <;> rw [e] <;> intro f <;> cases f)
  have life := h.life.powering state classified on
  refine h.moved idle ?_ (h.presence.filtered filtered ?_ ?_ rfl) rfl rfl <;>
    (unfold Bay.enterPowering; dsimp only; split)
  · exact life.pgoodArrived rfl
  · exact life
  all_goals rfl

/-- IDENTIFYING is left for FAULTED, POWERING or UNPOWERED (R79, R80). -/
theorem BaysLaw.identify (h : BaysLaw due s) (c : ModuleClass) (state : (s.bay b).life.state = .identifying) :
    BaysLaw due (s.identify b c) := by
  have lawful := (h b).1
  have filtered : (s.bay b).life.state.filtered = true := by rw [state]; rfl
  unfold State.identify
  dsimp only
  split
  next =>
    refine ((h.others b).updLife _).enterFaulted ?_ ?_ ?_ _ <;> rw [State.updLife_bay, if_pos rfl]
    · exact filtered
    · exact lawful.presence.filtered filtered filtered rfl rfl
    · rfl
  next =>
    split
    next =>
      have on : c.autoSupply ≠ .none := by cases c <;> decide
      refine h.ofBay (fun d => ?_) rfl (lawful.enterPowering (.inl state) (c := some c) rfl none on) Iff.rfl
      rw [State.setBay_bay, State.updLife_bay, if_pos rfl, State.updLife_bay]
      split <;> rfl
    next =>
      have idle := lawful.withoutWork (by rw [state]; rfl) (by rw [state]; intro e; cases e)
      refine h.ofBay (fun d => ?_) rfl (lawful.moved idle (lawful.life.unpowered state c)
        (lawful.presence.filtered (new := { s.bay b with
          life := { (s.bay b).life with moduleClass := some c, timer := none, state := .unpowered } })
          filtered rfl rfl rfl) rfl rfl) Iff.rfl
      rw [State.updLife_bay, State.updLife_bay, if_pos rfl, State.updLife_bay]
      split <;> rfl

/-- POWER_ON's entry to POWERING (R81, R82). -/
theorem BaysLaw.enterPowering (h : BaysLaw due s) {supply : Supply} (on : supply ≠ .none)
    (state : (s.bay b).life.state = .unpowered ∨ (s.bay b).life.state = .quiesced) :
    BaysLaw due (s.setBay b ((s.bay b).enterPowering supply)) := by
  have classified := (h b).1.life.classified (by rcases state with e | e <;> rw [e] <;> rfl)
    (by rcases state with e | e <;> rw [e] <;> intro f <;> cases f)
  exact h.ofBay (s.setBay_bay b · _) rfl
    ((h b).1.enterPowering (.inr state) classified (s.bay b).life.timer on) Iff.rfl

/-- A change of the controller alone, in a bay whose engine has no work and whose list is empty. -/
theorem BaysLaw.updLife_idle (h : BaysLaw due s) {f : Lifecycle → Lifecycle}
    (idle : (s.bay b).engine.work = .none ∧ (s.bay b).engine.state = .idle ∧ (s.bay b).list = [])
    (life : (f (s.bay b).life).Lawful) (was : (s.bay b).life.state.filtered = true)
    (is : (f (s.bay b).life).state.filtered = true) (filter : (f (s.bay b).life).filter = (s.bay b).life.filter) :
    BaysLaw due (s.updLife b f) :=
  h.ofBay (s.updLife_bay b · f) rfl
    ((h b).1.moved idle life ((h b).1.presence.filtered was is filter rfl) rfl rfl) Iff.rfl

/-- A change of the controller that its laws do not look at (R46, R95). -/
theorem BaysLaw.updLife_same (h : BaysLaw due s) {f : Lifecycle → Lifecycle}
    (life : (f (s.bay b).life).Lawful) (state : (f (s.bay b).life).state = (s.bay b).life.state)
    (mrdySeen : (f (s.bay b).life).mrdySeen = (s.bay b).life.mrdySeen)
    (filter : (f (s.bay b).life).filter = (s.bay b).life.filter) :
    BaysLaw due (s.updLife b f) :=
  h.ofBay (s.updLife_bay b · f) rfl
    ((h b).1.sameState life ((h b).1.presence.congr state filter rfl) state mrdySeen rfl rfl) Iff.rfl

/-! ## The profile read -/

/-- MRDY has arrived in PROFILING, where no profile read was under way (R68, R85). -/
theorem BaysLaw.takeMrdy (h : BaysLaw due s) (state : (s.bay b).life.state = .profiling)
    (unseen : (s.bay b).life.mrdySeen = false) : BaysLaw due (s.takeMrdy b) := by
  have lawful := (h b).1
  obtain ⟨_, idle, list⟩ := lawful.withoutWork (by rw [state]; rfl) (fun _ => unseen)
  refine h.ofBay (s.takeMrdy_bay b ·) (by simp) ⟨?_, ?_, .inl ?_, ?_, ?_⟩ ?_
  · exact lawful.life.mrdyArrived state
  · exact lawful.presence.congr rfl rfl rfl
  · exact ⟨fun e => (by cases e), state, rfl, list⟩
  · simp [Engine.CycleLawful, Bay.profiled, Engine.running]
  · simp [Bay.profiled, list]
  · simp [Bay.profiled, idle]

/-- A profile read ends where the engine's cycle and the bus have been released: the header is judged, or the read has
failed (R69, R86 to R89). -/
theorem OthersLaw.profileOutcome (h : OthersLaw due b s) (free : ¬ s.bus.Carries b) (life : (s.bay b).life.Lawful)
    (presence : (s.bay b).PresenceLawful) (list : (s.bay b).list = []) (state : (s.bay b).life.state = .profiling)
    (bytes : Option (List Byte)) : BaysLaw due (s.profileOutcome b bytes) := by
  have cleared := h.updEngine Engine.cleared
  unfold State.profileOutcome
  dsimp only
  rw [if_pos (by simpa using state)]
  split
  next summary _ =>
    have bays : ∀ c, ((s.updEngine b Engine.cleared).enterReady b summary).bay c =
        if b = c then Bay.readied { s.bay b with engine := (s.bay b).engine.cleared } summary
        else (s.updEngine b Engine.cleared).bay c := fun c => by
      rw [State.enterReady_bay, State.updEngine_bay, if_pos rfl]
    refine cleared.complete bays (fun c _ => by simp)
      (Bay.lawful_cleared (e := { (s.bay b).engine with timeoutStreak := 0 }) (life.ready state summary)
        (presence.filtered (by rw [state]; rfl) rfl rfl rfl) rfl list) ?_
    simp [Bay.readied, Engine.cleared, free]
  next =>
    refine cleared.enterFaulted ?_ ?_ ?_ _ <;> rw [State.updEngine_bay, if_pos rfl]
    · show (s.bay b).life.state.filtered = true
      rw [state]; rfl
    · exact presence.congr rfl rfl rfl
    · exact life.classified (by rw [state]; rfl) (by rw [state]; intro e; cases e)

end

end Sys2Proof.Machine

/-! SUPPORT. The start and the end of requests, the cycles, ABANDON, link loss and the resets, under the laws of the bays
(R37, R42, R44, R50, R51, R55, R57, R65, R68, R70). -/

namespace Sys2Proof.Machine

/-! ## Entries -/

/-- The end of a cycle changes the bytes of an entry alone (R55). -/
@[simp] theorem Entry.advanced_rest (e : Entry) (n : Nat) (read : List Byte) :
    (e.advanced n read).snap = e.snap ∧ (e.advanced n read).isQueued = e.isQueued ∧
    (e.advanced n read).length = e.length ∧ (e.advanced n read).openTag = e.openTag := by
  cases e <;> exact ⟨rfl, rfl, rfl, rfl⟩

theorem Entry.Lawful.advanced {b : BayId} {e : Entry} (h : e.Lawful b) {n : Nat} {read : List Byte}
    (more : (e.advanced n read).bytesDone < (e.advanced n read).length) : (e.advanced n read).Lawful b := by
  obtain ⟨snap, _, unanswered⟩ := h
  cases e <;> exact ⟨snap, more, unanswered⟩

theorem Entry.Lawful.activated {b : BayId} {e : Entry} (h : e.Lawful b) : e.activated.Lawful b := by
  obtain ⟨snap, more, unanswered⟩ := h
  cases e with
  | store e => exact ⟨snap, more, trivial⟩
  | request e => exact ⟨snap, more, fun k => (by cases k), unanswered.2⟩

theorem Entry.activated_isQueued (e : Entry) : e.activated.isQueued = false := by
  cases e <;> rfl

/-- What link loss leaves of an entry (R44): a lawful entry, QUEUED where it was, and no tag in force. -/
theorem Entry.afterLinkLoss_spec {b : BayId} {e x : Entry} (h : e.afterLinkLoss = some x) :
    (e.Lawful b → x.Lawful b) ∧ x.isQueued = e.isQueued ∧ x.openTag = none := by
  cases e with
  | store e =>
    injection h with h
    subst h
    exact ⟨id, rfl, rfl⟩
  | request e =>
    unfold Entry.afterLinkLoss at h
    dsimp only at h
    split at h
    next => cases h
    next was =>
      injection h with h
      subst h
      exact ⟨fun ⟨snap, more, _, status⟩ => ⟨snap, more, fun k => (by cases k), status⟩, by simp [Entry.isQueued, was],
        rfl⟩
    next was =>
      injection h with h
      subst h
      exact ⟨id, rfl, by simp [Entry.openTag, was]⟩
    next was =>
      injection h with h
      subst h
      exact ⟨id, rfl, by simp [Entry.openTag, was]⟩

/-- An entry that is not QUEUED stays in its list at link loss (R44). -/
theorem Entry.afterLinkLoss_isSome {e : Entry} (h : e.isQueued = false) : ∃ x, e.afterLinkLoss = some x := by
  cases e with
  | store e => exact ⟨_, rfl⟩
  | request e => cases state : e.state <;> simp_all [Entry.afterLinkLoss, Entry.isQueued]

/-! ## The work of an engine -/

section
variable {p q : Prop} {b : BayId} {bay : Bay}

/-- A busy engine has work (R50). -/
theorem Bay.Lawful.engineLawful_of_busy (h : bay.Lawful p b) (busy : bay.engine.state ≠ .idle) : bay.EngineLawful :=
  h.engine.resolve_right (fun ⟨_, _, idle, _⟩ => busy idle)

theorem Bay.Lawful.work_of_busy (h : bay.Lawful p b) (busy : bay.engine.state ≠ .idle) :
    bay.engine.work ≠ .none := by
  intro work
  have lawful := h.engineLawful_of_busy busy
  unfold Bay.EngineLawful at lawful
  rw [work] at lawful
  exact busy lawful.1

/-- An engine that serves a request (R37, R50). -/
theorem Bay.Lawful.request (h : bay.Lawful p b) (work : bay.engine.work = .request) :
    bay.engine.state ≠ .idle ∧ bay.life.state.served = true ∧
    ∃ head rest, bay.list = head :: rest ∧ head.isQueued = false ∧ ∀ e ∈ rest, e.isQueued = true := by
  rcases h.engine with lawful | ⟨_, without, _⟩
  · unfold Bay.EngineLawful at lawful
    rwa [work] at lawful
  · rw [work] at without; cases without

/-- An engine that reads the profile (R68, R85). -/
theorem Bay.Lawful.profileRead (h : bay.Lawful p b) (work : bay.engine.work = .profileRead) :
    bay.engine.state ≠ .idle ∧ bay.life.state = .profiling ∧ bay.life.mrdySeen = true ∧ bay.list = [] := by
  rcases h.engine with lawful | ⟨_, without, _⟩
  · unfold Bay.EngineLawful at lawful
    rwa [work] at lawful
  · rw [work] at without; cases without

/-- A busy engine goes on with its work (R50). -/
theorem Bay.Lawful.goesOn (h : bay.Lawful p b) (busy : bay.engine.state ≠ .idle) {e : Engine}
    (work : e.work = bay.engine.work) (busy' : e.state ≠ .idle) (cycle : e.CycleLawful) :
    Bay.Lawful p b { bay with engine := e } := by
  refine ⟨h.life, h.presence, .inl ?_, cycle, h.entries⟩
  have lawful := h.engineLawful_of_busy busy
  have working := h.work_of_busy busy
  unfold Bay.EngineLawful at lawful ⊢
  simp only [work]
  split at lawful
  next work => exact absurd work working
  next => exact ⟨busy', lawful.2⟩
  next => exact ⟨busy', lawful.2⟩

/-! ## The start and the end of a request -/

/-- A start leaves a bay without work only where its list is empty (R51). -/
theorem Bay.Lawful.startRequest (h : bay.Lawful p b) :
    bay.startRequest.Lawful q b ∧
    (bay.startRequest.engine.state = .inCycle ↔ bay.engine.state = .inCycle) := by
  rcases h.engine with lawful | ⟨_, work, idle, served, queued⟩
  · have nothing : bay.startRequest = bay := by
      unfold Bay.EngineLawful at lawful
      unfold Bay.startRequest
      split at lawful
      next => rw [lawful.2]
      next =>
        obtain ⟨busy, _⟩ := lawful
        simp only [busy, false_and, if_false]
        (repeat' split) <;> rfl
      next => rw [lawful.2.2.2]
    rw [nothing]
    exact ⟨⟨h.life, h.presence, .inl lawful, h.cycle, h.entries⟩, Iff.rfl⟩
  · cases list : bay.list with
    | nil =>
      have nothing : bay.startRequest = bay := by simp [Bay.startRequest, list]
      rw [nothing]
      exact ⟨⟨h.life, h.presence, .inl (Bay.engineLawful_empty work idle list), h.cycle, h.entries⟩, Iff.rfl⟩
    | cons head rest =>
      obtain ⟨entry, entries⟩ := List.forall_mem_cons.1 (list ▸ h.entries)
      obtain ⟨first, behind⟩ := List.forall_mem_cons.1 (list ▸ queued)
      obtain ⟨snap, isSnap, _⟩ := entry.1
      have started : bay.startRequest =
          { bay with list := head.activated :: rest,
                     engine := bay.engine.started bay.life.summary head snap } := by
        simp [Bay.startRequest, list, isSnap, work, idle, first, served]
      rw [started]
      refine ⟨⟨h.life, h.presence.congr rfl rfl rfl, .inl ?_, ?_, ?_⟩, ?_⟩
      · exact ⟨fun e => (by cases e), served, _, _, rfl, head.activated_isQueued, behind⟩
      · simp [Engine.CycleLawful, Engine.started, Engine.running]
      · exact List.forall_mem_cons.2 ⟨entry.activated, entries⟩
      · simp [Engine.started, idle]

/-- The end of a request leaves the bay at rest, with its start or its report due (R65). -/
theorem Bay.lawful_finished (life : bay.life.Lawful) (presence : bay.PresenceLawful)
    (served : bay.life.state.served = true) (behind : ∀ e ∈ bay.list.tail, e.isQueued = true ∧ e.Lawful b) (due : p)
    (st : AnswerStatus) : (bay.finished st).Lawful p b :=
  ⟨life, presence.congr rfl rfl rfl, .inr ⟨due, rfl, rfl, served, fun e mem => (behind e mem).1⟩,
    Engine.cleared_cycleLawful { bay.engine with timeoutStreak := streakAfter bay.engine.timeoutStreak st },
    fun e mem => (behind e mem).2⟩

/-- An entry joins the list of a READY bay, whose start is then due (R36, R51). -/
theorem Bay.Lawful.appended (h : bay.Lawful p b) (ready : bay.life.state = .ready) (due : q) {e : Entry}
    (queued : e.isQueued = true) (lawful : e.Lawful b) : Bay.Lawful q b { bay with list := bay.list ++ [e] } := by
  have served : bay.life.state.served = true := by rw [ready]; rfl
  have also : ∀ {l : List Entry}, (∀ x ∈ l, x.isQueued = true) → ∀ x ∈ l ++ [e], x.isQueued = true :=
    fun all => List.forall_mem_append.2 ⟨all, by simpa using queued⟩
  refine ⟨h.life, h.presence.congr rfl rfl rfl, ?_, h.cycle,
    List.forall_mem_append.2 ⟨h.entries, by simpa using lawful⟩⟩
  rcases h.engine with engine | ⟨_, work, idle, _, all⟩
  · cases work : bay.engine.work with
    | none =>
      have atRest : bay.engine.state = .idle ∧ bay.list = [] := by
        unfold Bay.EngineLawful at engine
        rwa [work] at engine
      exact .inr ⟨due, work, atRest.1, served, also (by simp [atRest.2])⟩
    | request =>
      obtain ⟨busy, _, head, rest, list, active, all⟩ := h.request work
      left
      unfold Bay.EngineLawful
      simp only [work]
      exact ⟨busy, served, head, rest ++ [e], by rw [list]; rfl, active, also all⟩
    | profileRead =>
      obtain ⟨_, profiling, _⟩ := h.profileRead work
      rw [ready] at profiling
      cases profiling
  · exact .inr ⟨due, work, idle, served, also all⟩

/-- A bay at link loss (R44). -/
theorem Bay.Lawful.afterLinkLoss (h : bay.Lawful p b) (lost : Nat) : (bay.afterLinkLoss lost).Lawful p b := by
  have kept : ∀ {l : List Entry}, (∀ e ∈ l, e.isQueued = true) →
      ∀ x ∈ l.filterMap Entry.afterLinkLoss, x.isQueued = true := fun all x mem => by
    obtain ⟨e, was, is⟩ := List.mem_filterMap.1 mem
    rw [(Entry.afterLinkLoss_spec (b := b) is).2.1]
    exact all e was
  refine ⟨h.life, h.presence.congr rfl rfl rfl, ?_, h.cycle, fun x mem => ?_⟩
  · rcases h.engine with lawful | ⟨due, work, idle, served, all⟩
    · left
      unfold Bay.EngineLawful at lawful ⊢
      unfold Bay.afterLinkLoss
      dsimp only
      split at lawful
      next => exact ⟨lawful.1, by rw [lawful.2]; rfl⟩
      next =>
        obtain ⟨busy, served, head, rest, list, active, all⟩ := lawful
        obtain ⟨x, is⟩ := Entry.afterLinkLoss_isSome active
        exact ⟨busy, served, x, rest.filterMap Entry.afterLinkLoss, by rw [list, List.filterMap_cons_some is],
          (Entry.afterLinkLoss_spec (b := b) is).2.1.trans active, kept all⟩
      next =>
        obtain ⟨busy, profiling, seen, list⟩ := lawful
        exact ⟨busy, profiling, seen, by rw [list]; rfl⟩
    · exact .inr ⟨due, work, idle, served, kept all⟩
  · obtain ⟨e, was, is⟩ := List.mem_filterMap.1 mem
    exact (Entry.afterLinkLoss_spec is).1 (h.entries e was)

/-- A bay after either reset (R49, R50, R75). -/
theorem Bay.lawful_afterReset (bay : Bay) : bay.afterReset.Lawful p b := by
  obtain ⟨engine, list, presA, presB, _⟩ := bay.afterReset_frame
  have present : bay.afterReset.present = bay.present := by simp [Bay.present, presA, presB]
  have life : Lifecycle.reset.Lawful := Lifecycle.lawful_emptied Lifecycle.reset
  refine Bay.lawful_cleared (e := Engine.reset) ?_ ?_ engine list
  · cases seated : bay.present with
    | false => rw [Bay.afterReset_life_absent seated]; exact life
    | true => rw [Bay.afterReset_life_present seated]; exact life.settling rfl
  · unfold Bay.PresenceLawful
    rw [present]
    cases seated : bay.present with
    | false =>
      rw [Bay.afterReset_life_absent seated]
      exact ⟨fun e => (by cases e), fun e => (by cases e), fun e => (by cases e)⟩
    | true =>
      rw [Bay.afterReset_life_present seated]
      exact ⟨fun _ e => (by cases e), fun _ => rfl, fun e => (by cases e)⟩

/-- An ABANDON leaves the entry whose cycle is in progress, or nothing (R70, R109). -/
theorem Bay.Lawful.abandoned (h : bay.Lawful p b) (served : bay.life.state.served = true) :
    bay.abandoned.Lawful p b := by
  unfold Bay.abandoned
  split
  next cycle =>
    have busy : bay.engine.state ≠ .idle := by rw [cycle]; intro e; cases e
    have running := h.goesOn busy (e := { bay.engine with stopAfterCycle := true }) rfl busy h.cycle
    refine ⟨h.life, h.presence.congr rfl rfl rfl, .inl ?_, running.cycle,
      fun e mem => h.entries e (List.mem_of_mem_take mem)⟩
    have lawful := h.engineLawful_of_busy busy
    unfold Bay.EngineLawful at lawful ⊢
    dsimp only
    split at lawful
    next => exact absurd lawful.1 busy
    next =>
      obtain ⟨_, _, head, rest, list, active, _⟩ := lawful
      exact ⟨busy, served, head, [], by rw [list]; rfl, active, by simp⟩
    next =>
      obtain ⟨_, profiling, _⟩ := lawful
      rw [profiling] at served
      cases served
  next => exact Bay.lawful_cleared h.life (h.presence.congr rfl rfl rfl) rfl rfl

end

theorem NothingDue.weaker {b : BayId} (c : BayId) (_ : b ≠ c) : NothingDue c → DueIn b c := False.elim

theorem DueIn.stronger {b : BayId} (c : BayId) (ne : b ≠ c) : DueIn b c → NothingDue c := fun e => ne (Eq.symm e)

section
variable {due : BayId → Prop} {s t : State} {b : BayId}

/-! ## Leaving service -/

/-- A QUIESCING bay whose list is empty is shut down (R112). -/
theorem BaysLaw.completeQuiesce (h : BaysLaw due s) (state : (s.bay b).life.state = .quiescing)
    (list : (s.bay b).list = []) : BaysLaw due (s.completeQuiesce b) := by
  have lawful := (h b).1
  have filtered : (s.bay b).life.state.filtered = true := by rw [state]; rfl
  obtain ⟨work, idle⟩ := lawful.withoutWork_of_empty (by rw [state]; rfl) list
  exact h.ofBay (s.completeQuiesce_bay b ·) (by simp)
    (lawful.moved ⟨work, idle, list⟩
      (Lifecycle.lawful_quiesced (lawful.life.classified filtered (by rw [state]; intro e; cases e)) _)
      (lawful.presence.filtered filtered rfl rfl rfl) rfl rfl) Iff.rfl

theorem BaysLaw.completeIfEmpty (h : BaysLaw due s) (state : (s.bay b).life.state = .quiescing) :
    BaysLaw due (s.completeIfEmpty b) := by
  unfold State.completeIfEmpty
  split
  next list => exact h.completeQuiesce state list
  next => exact h

/-- QUIESCED at once, from a state out of service (R113). -/
theorem BaysLaw.quiesceAtOnce (h : BaysLaw due s) (filtered : (s.bay b).life.state.filtered = true)
    (identified : (s.bay b).life.state ≠ .identifying) (unserved : (s.bay b).life.state.served = false) :
    BaysLaw due (s.quiesceAtOnce b) := by
  have lawful := (h b).1
  exact (h.others b).complete_free (s.quiesceAtOnce_bay b ·) (by simp)
    (Bay.lawful_cleared (Lifecycle.lawful_quiesced (lawful.life.classified filtered identified) _)
      (lawful.presence.filtered filtered rfl rfl rfl) rfl (lawful.list_unserved unserved))
    (by simp [Engine.cleared])

/-- ABANDON stops the engine or leaves its cycle (R70, R109). -/
theorem BaysLaw.abandon (h : BaysLaw due s) (served : (s.bay b).life.state.served = true) :
    BaysLaw due (s.abandon b) := by
  have lawful := (h b).1.abandoned served
  by_cases cycle : (s.bay b).engine.state = .inCycle
  · refine h.ofBay (s.abandon_bay b ·) ?_ lawful ?_
    · simp [State.abandon, cycle]
    · simp [Bay.abandoned, cycle]
  · refine (h.others b).complete_free (s.abandon_bay b ·) (fun c => ?_) lawful ?_
    · simp [State.abandon, cycle]
    · simp [Bay.abandoned, cycle, Engine.cleared]

theorem Bay.abandoned_life (bay : Bay) : bay.abandoned.life = bay.life := by
  unfold Bay.abandoned
  split <;> rfl

/-- A bay in service enters QUIESCING, or takes the other mode, before its list is looked at (R108, R110). -/
theorem BaysLaw.startQuiescing (h : BaysLaw due s) (served : (s.bay b).life.state.served = true) (mode : QuiesceMode) :
    BaysLaw due (s.updLife b (fun l => { l with state := .quiescing, quiesceMode := some mode })) := by
  have lawful := (h b).1
  have filtered : (s.bay b).life.state.filtered = true := by
    revert served
    cases (s.bay b).life.state <;> decide
  refine h.ofBay (s.updLife_bay b · _) rfl ⟨lawful.life.quiescing served mode,
    lawful.presence.filtered filtered rfl rfl rfl, ?_, lawful.cycle, lawful.entries⟩ Iff.rfl
  refine lawful.engine.imp (fun engine => ?_) (fun ⟨due, work, idle, _, queued⟩ => ⟨due, work, idle, rfl, queued⟩)
  unfold Bay.EngineLawful at engine ⊢
  dsimp only
  split at engine
  next => exact engine
  next => exact ⟨engine.1, rfl, engine.2.2⟩
  next => rw [engine.2.1] at served; cases served

theorem BaysLaw.abandonIfAsked (h : BaysLaw due s) (state : (s.bay b).life.state = .quiescing) :
    BaysLaw due ((s.abandon b).completeIfEmpty b) :=
  (h.abandon (by rw [state]; rfl)).completeIfEmpty (by simpa [Bay.abandoned_life] using state)

theorem BaysLaw.enterQuiescing (h : BaysLaw due s) (ready : (s.bay b).life.state = .ready) (mode : QuiesceMode) :
    BaysLaw due (s.enterQuiescing b mode) := by
  have started := h.startQuiescing (b := b) (by rw [ready]; rfl) mode
  unfold State.enterQuiescing
  cases mode with
  | drain => exact started.completeIfEmpty (by simp)
  | abandon => exact started.abandonIfAsked (by simp)

theorem BaysLaw.convertDrain (h : BaysLaw due s) (state : (s.bay b).life.state = .quiescing) :
    BaysLaw due (s.convertDrain b) := by
  have same : s.updLife b (fun l => { l with quiesceMode := some .abandon }) =
      s.updLife b (fun l => { l with state := .quiescing, quiesceMode := some .abandon }) := by
    unfold State.updLife
    rw [← state]
  unfold State.convertDrain
  rw [same]
  exact (h.startQuiescing (by rw [state]; rfl) .abandon).abandonIfAsked (by simp)

/-- QUIESCE, by the state it finds (R107 to R113). -/
theorem BaysLaw.commandQuiesce (h : BaysLaw due s) (o : List Byte) : BaysLaw due (commandQuiesce o s).after := by
  unfold Machine.commandQuiesce
  split
  next => exact h
  next c mode _ =>
    split
    case h_9 state => exact h.enterQuiescing state mode
    case h_10 state =>
      split
      next => exact h.convertDrain state
      next => exact h
    case h_1 | h_2 | h_3 | h_11 => exact h
    all_goals
      rename_i state
      exact h.quiesceAtOnce (by rw [state]; rfl) (by rw [state]; decide) (by rw [state]; rfl)

/-! ## The cycles -/

/-- The bus is granted to an engine that waits for it (R56, R57). -/
theorem BaysLaw.grantBus (h : BaysLaw due s) (grantee : s.grantee = some b) : BaysLaw due (s.grantBus b) := by
  have lawful := (h b).1
  unfold State.grantee at grantee
  split at grantee
  next => cases grantee
  next free =>
    have waits : (s.bay b).engine.state = .awaitingBus := by
      simpa [State.awaitsBus] using List.find?_some grantee
    have busy : (s.bay b).engine.state ≠ .idle := by rw [waits]; intro e; cases e
    obtain ⟨c, cycle⟩ := Option.isSome_iff_exists.1 (lawful.cycle.1.2 busy)
    have unused : ∀ c, ¬ s.bus.Carries c := by rintro c ⟨d, driven, _⟩; rw [free] at driven; cases driven
    have own : ∀ c, (s.grantBus b).bus.Carries c ↔ b = c := fun d => by
      simp [State.grantBus, cycle, Bus.Carries, Bay.busCycle]
    refine (h.others b).complete (x := { s.bay b with engine := { (s.bay b).engine with
      state := .inCycle, cycle := some (c.start (s.bay b).life.policy.accessTimer (s.bay b).engine.waitClass) } })
      (fun d => ?_) (fun d ne => by simp [own, unused, ne]) (lawful.goesOn busy rfl (by simp) ?_) (by simp [own])
    · unfold State.grantBus
      simp [cycle]
    · obtain ⟨_, _, widths⟩ := lawful.cycle
      exact ⟨by simp, by simp [Engine.running, Cycle.start], widths⟩

theorem Engine.running_inCycle {e : Engine} {x : Cycle × CycleRun} (h : e.running = some x) : e.state = .inCycle := by
  unfold Engine.running at h
  split at h
  next state _ => exact state
  all_goals cases h

/-- A cycle waits for its release (R60). -/
theorem BaysLaw.held (h : BaysLaw due s) {c : Cycle} {r : CycleRun}
    (running : (s.bay b).engine.running = some (c, r)) : BaysLaw due (s.updEngine b (fun e => e.held c r)) := by
  have lawful := (h b).1
  have cycle := Engine.running_inCycle running
  have busy : (s.bay b).engine.state ≠ .idle := by rw [cycle]; intro e; cases e
  obtain ⟨_, _, widths⟩ := lawful.cycle
  exact h.ofBay (s.updEngine_bay b · _) rfl
    (lawful.goesOn busy rfl busy ⟨by simp [Engine.held, busy], by simp [Engine.held, Engine.running, cycle], widths⟩)
    Iff.rfl

/-- The start of a request that is due, or of none (R51). -/
theorem BaysLaw.startRequest {due' : BayId → Prop} (h : BaysLaw due s) (weaker : ∀ c, b ≠ c → due c → due' c) :
    BaysLaw due' (s.startRequest b) := by
  obtain ⟨lawful, cycle⟩ := (h b).1.startRequest (q := due' b)
  exact ((h.others b).mono weaker).complete (s.startRequest_bay b ·) (fun c _ => by simp) lawful
    (cycle.trans (by simpa using (h b).2))

/-- The end of a request whose cycle has left the bus, before the next start or the report (R65). -/
theorem OthersLaw.finishRequest (h : OthersLaw NothingDue b s) (free : ¬ s.bus.Carries b)
    (life : (s.bay b).life.Lawful) (presence : (s.bay b).PresenceLawful)
    (served : (s.bay b).life.state.served = true)
    (behind : ∀ e ∈ (s.bay b).list.tail, e.isQueued = true ∧ e.Lawful b) (st : AnswerStatus) :
    BaysLaw (DueIn b) (s.finishRequest b st) :=
  (h.mono NothingDue.weaker).complete (s.finishRequest_bay b · st) (fun c _ => by simp)
    (Bay.lawful_finished life presence served behind rfl st) (by simp [Bay.finished, Engine.cleared, free])

theorem BaysLaw.startDue (h : BaysLaw (DueIn b) s) : BaysLaw NothingDue (s.startRequest b) :=
  h.startRequest DueIn.stronger

/-- A bay that keeps its laws, while the bus has been freed of its cycle already. -/
structure Freed (b : BayId) (s : State) : Prop where
  others : OthersLaw NothingDue b s
  lawful : (s.bay b).Lawful False b
  free : ¬ s.bus.Carries b

theorem BaysLaw.freed (h : BaysLaw NothingDue s) (b : BayId) : Freed b (s.releaseBus b) :=
  ⟨(h.others b).ofBay (fun c _ => s.releaseBus_bay b c) (fun c ne => by simp [ne]),
    by rw [s.releaseBus_bay b b]; exact (h b).1, by simp⟩

/-- What stands behind the head of a request under way. -/
theorem Bay.Lawful.behindHead {p : Prop} {bay : Bay} (h : bay.Lawful p b) (work : bay.engine.work = .request) :
    ∀ e ∈ bay.list.tail, e.isQueued = true ∧ e.Lawful b := by
  obtain ⟨_, _, head, rest, list, _, queued⟩ := h.request work
  intro e mem
  refine ⟨queued e (by simpa [list] using mem), h.entries e (List.mem_of_mem_tail mem)⟩

theorem Freed.finishRequest (h : Freed b s) (work : (s.bay b).engine.work = .request) (st : AnswerStatus) :
    BaysLaw (DueIn b) (s.finishRequest b st) :=
  h.others.finishRequest h.free h.lawful.life h.lawful.presence (h.lawful.request work).2.1
    (h.lawful.behindHead work) st

theorem Freed.endRequest (h : Freed b s) (work : (s.bay b).engine.work = .request) (st : AnswerStatus) :
    BaysLaw NothingDue (s.endRequest b st) :=
  (h.finishRequest work st).startDue

/-- The normal end of a cycle of a request (R55, R60, R72). -/
theorem Freed.requestCycleDone (h : Freed b s) (work : (s.bay b).engine.work = .request) (c : Cycle)
    (lanes : BitVec 16) : BaysLaw NothingDue (s.requestCycleDone b c lanes) := by
  obtain ⟨busy, served, head, rest, list, active, queued⟩ := h.lawful.request work
  obtain ⟨first, entries⟩ := List.forall_mem_cons.1 (list ▸ h.lawful.entries)
  obtain ⟨snap, isQueued, _, _⟩ := head.advanced_rest c.bytes (c.readBytes lanes)
  have advanced (st : AnswerStatus) : BaysLaw NothingDue
      ((s.setList b (head.advanced c.bytes (c.readBytes lanes) :: rest)).endRequest b st) := by
    refine (OthersLaw.finishRequest (h.others.setList _) h.free ?_ ?_ ?_ ?_ st).startDue <;>
      rw [State.setList_bay, if_pos rfl]
    · exact h.lawful.life
    · exact h.lawful.presence.congr rfl rfl rfl
    · exact served
    · exact fun e mem => ⟨queued e mem, entries e mem⟩
  unfold State.requestCycleDone
  rw [list]
  dsimp only
  split
  next => exact advanced .quiesced
  next =>
    split
    next => exact advanced .ok
    next more =>
      obtain ⟨p, isSnap, _⟩ := first.1
      obtain ⟨_, _, width, waitClass⟩ := h.lawful.cycle
      obtain ⟨w, effective⟩ := Option.isSome_iff_exists.1 (width.2 work)
      refine h.others.complete (x := { s.bay b with
          list := head.advanced c.bytes (c.readBytes lanes) :: rest,
          engine := (s.bay b).engine.again
            ((s.bay b).engine.nextCycle (head.advanced c.bytes (c.readBytes lanes))) }) (fun d => ?_)
        (fun d _ => Iff.rfl) ⟨h.lawful.life, h.lawful.presence.congr rfl rfl rfl, .inl ?_, ⟨?_, ?_, width, waitClass⟩,
          List.forall_mem_cons.2 ⟨first.advanced (by omega), entries⟩⟩ ?_
      · rw [State.updEngine_bay, State.setList_bay, State.setList_bay, if_pos rfl]
        split <;> rfl
      · unfold Bay.EngineLawful Engine.again
        simp only [work]
        exact ⟨by simp, served, _, rest, rfl, isQueued.trans active, queued⟩
      · simp [Engine.again, Engine.nextCycle, effective, snap, isSnap]
      · simp [Engine.again, Engine.running]
      · exact ⟨fun e => (by cases e), fun carries => absurd carries h.free⟩

/-- The end of a profile read (R69, R86). -/
theorem Freed.profileOutcome (h : Freed b s) (work : (s.bay b).engine.work = .profileRead)
    (bytes : Option (List Byte)) : BaysLaw NothingDue (s.profileOutcome b bytes) := by
  obtain ⟨_, profiling, _, list⟩ := h.lawful.profileRead work
  exact h.others.profileOutcome h.free h.lawful.life h.lawful.presence list profiling bytes

/-- A byte of the profile read (R68, R69). -/
theorem Freed.profileByte (h : Freed b s) (work : (s.bay b).engine.work = .profileRead) (byte : Byte) :
    BaysLaw NothingDue (s.profileByte b byte) := by
  obtain ⟨busy, profiling, _, list⟩ := h.lawful.profileRead work
  obtain ⟨_, _, widths⟩ := h.lawful.cycle
  unfold State.profileByte
  dsimp only
  split
  next =>
    refine OthersLaw.profileOutcome (h.others.updEngine _) h.free ?_ ?_ ?_ ?_ _ <;> rw [State.updEngine_bay, if_pos rfl]
    · exact h.lawful.life
    · exact h.lawful.presence.congr rfl rfl rfl
    · exact list
    · exact profiling
  next =>
    refine h.others.complete (x := { s.bay b with engine := { (s.bay b).engine with
      profileBytes := (s.bay b).engine.profileBytes ++ [byte], state := .awaitingBus,
      cycle := some (profileCycle ((s.bay b).engine.profileBytes ++ [byte]).length) } }) (fun c => ?_)
      (fun c _ => Iff.rfl) (h.lawful.goesOn busy rfl (by simp) ⟨by simp, by simp [Engine.running], widths⟩)
      ⟨fun e => (by cases e), fun carries => absurd carries h.free⟩
    rw [State.updEngine_bay, State.updEngine_bay, if_pos rfl, State.updEngine_bay]
    split <;> rfl

/-- The end of a cycle by the module (R60, R61). -/
theorem BaysLaw.endCycle (h : BaysLaw NothingDue s) {r : Cycle × CycleRun}
    (running : (s.bay b).engine.running = some r) (c : Cycle) (error : Bool) (lanes : BitVec 16) :
    BaysLaw NothingDue (s.endCycle b c error lanes) := by
  have freed := h.freed b
  have busy : ((s.releaseBus b).bay b).engine.state ≠ .idle := by
    rw [State.releaseBus_bay, Engine.running_inCycle running]
    intro e; cases e
  unfold State.endCycle
  dsimp only
  split
  next work => exact absurd work (freed.lawful.work_of_busy busy)
  next work =>
    split
    next => exact freed.profileOutcome work none
    next => exact freed.profileByte work _
  next work =>
    split
    next => exact freed.endRequest work _
    next => exact freed.requestCycleDone work c lanes

/-! ## The access timer -/

/-- The removal is taken where the filter has been timing (R101). -/
theorem BaysLaw.takeRemoval (h : BaysLaw due s) : BaysLaw due (s.takeRemoval b) := by
  unfold State.takeRemoval
  split
  next => exact (h.others b).removeModule
  next => exact h

theorem Lifecycle.filtered_of_watchesPgood {l : Lifecycle} (h : l.watchesPgood = true) :
    l.state.filtered = true ∧ l.state ≠ .identifying := by
  unfold Lifecycle.watchesPgood at h
  cases state : l.state <;> simp_all [BayState.filtered]

/-- A watched loss of PGOOD (R83). -/
theorem BaysLaw.pgoodLost (h : BaysLaw due s) (watched : (s.bay b).life.watchesPgood = true) :
    BaysLaw due ((s.setPgood b false).enterFaulted b .powerFail) := by
  obtain ⟨filtered, identified⟩ := Lifecycle.filtered_of_watchesPgood watched
  exact (h.setPgood false).enterFaulted (by simpa using filtered) (by simpa using identified) _

theorem BaysLaw.takePgoodLoss (h : BaysLaw due s) : BaysLaw due (s.takePgoodLoss b) := by
  unfold State.takePgoodLoss
  split
  next watched => exact h.pgoodLost watched
  next => exact h.setPgood false

/-- A MGMT packet keeps the laws if its command does. -/
theorem BaysLaw.intakeMgmt (h : BaysLaw due s) (seq : Byte) (command : State → CommandResult)
    (keeps : ∀ u : State, BaysLaw due u → BaysLaw due (command u).after) :
    BaysLaw due (s.intakeMgmt seq command) := by
  refine State.withCredit_induction (P := BaysLaw due) s .mgmt _ h (h.congr (by simp) (by simp)) ?_
  have consumed : BaysLaw due (s.consumed .mgmt) := h.congr rfl rfl
  unfold State.acceptMgmt
  split
  next => exact consumed.congr rfl rfl
  next => exact (keeps _ consumed).congr rfl rfl

/-- What is taken ahead of a report (R67, R104, R112; log 17). -/
theorem BaysLaw.takeBefore (h : BaysLaw due s) (before : BeforeReport) : BaysLaw due (s.takeBefore b before) := by
  cases before with
  | nothing => exact h
  | quiesceCompletion =>
    show BaysLaw due (s.takeQuiesceCompletion b)
    unfold State.takeQuiesceCompletion
    split
    next c => exact h.completeQuiesce c.1 c.2
    next => exact h
  | removal => exact h.takeRemoval
  | pgoodLoss => exact h.takePgoodLoss
  | quiesce seq o => exact h.intakeMgmt seq _ (fun _ hu => hu.commandQuiesce o)

/-- The report finds the bay in service and faults it, or finds a bay that has left service, where nothing is due
(R67, R91). -/
theorem BaysLaw.reportUnresponsive (h : BaysLaw (DueIn b) s) : BaysLaw NothingDue (s.reportUnresponsive b) := by
  unfold State.reportUnresponsive
  split
  next served =>
    have filtered : (s.bay b).life.state.filtered = true ∧ (s.bay b).life.state ≠ .identifying := by
      revert served
      cases (s.bay b).life.state <;> decide
    exact ((h.others b).mono DueIn.stronger).enterFaulted filtered.1 (h b).1.presence
      ((h b).1.life.classified filtered.1 filtered.2) _
  next unserved =>
    intro c
    refine ⟨⟨(h c).1.life, (h c).1.presence, .inl ?_, (h c).1.cycle, (h c).1.entries⟩, (h c).2⟩
    rcases (h c).1.engine with lawful | ⟨due, _, _, served, _⟩
    · exact lawful
    · subst due
      exact absurd served unserved

/-- The end of a cycle by the access timer (R63, R67, R69, R72). -/
theorem BaysLaw.timeoutCycle (h : BaysLaw NothingDue s) {r : Cycle × CycleRun}
    (running : (s.bay b).engine.running = some r) (before : BeforeReport) :
    BaysLaw NothingDue (s.timeoutCycle b before) := by
  have freed := h.freed b
  have busy : ((s.releaseBus b).bay b).engine.state ≠ .idle := by
    rw [State.releaseBus_bay, Engine.running_inCycle running]
    intro e; cases e
  unfold State.timeoutCycle
  dsimp only
  split
  next work => exact absurd work (freed.lawful.work_of_busy busy)
  next work => exact freed.profileOutcome work none
  next work =>
    split
    next => exact freed.endRequest work .quiesced
    next =>
      unfold State.timeoutRequest
      split
      next => exact ((freed.finishRequest work .bayTimeout).takeBefore before).reportUnresponsive
      next => exact freed.endRequest work .bayTimeout

end

end Sys2Proof.Machine

/-! PROOF. Every step keeps the laws of the bays and of the bus (R37, R39, R50, R51, R56, R57, R73 to R78, R99, R100). -/

namespace Sys2Proof.Machine

section
variable {due : BayId → Prop} {s t : State} {b : BayId}

/-! ## The resets and the departure from UP -/

/-- A reset leaves every bay without work and the bus free (R49, R50, R57, R75). -/
theorem baysLaw_resetAll (s : State) (epoch : Byte) (straps : BitVec 4) : BaysLaw due (s.resetAll epoch straps) := by
  intro c
  rw [State.resetAll_bay]
  refine ⟨(s.bay c).lawful_afterReset, ?_⟩
  rw [(s.bay c).afterReset_frame.1]
  exact ⟨fun e => (by cases e), fun ⟨_, driven, _⟩ => (by cases driven)⟩

/-- Link loss leaves the engines and the bus alone (R44, R45). -/
theorem BaysLaw.leaveUp (h : BaysLaw due s) : BaysLaw due s.leaveUp := by
  unfold State.leaveUp
  split
  next => exact baysLaw_resetAll _ _ _
  next =>
    intro c
    rw [State.departUp_bay]
    exact ⟨(h c).1.afterLinkLoss _, (h c).2⟩

theorem BaysLaw.takeAck (h : BaysLaw due s) (n : LinkSeq) : BaysLaw due (s.takeAck n) := by
  unfold State.takeAck
  dsimp only
  split
  next =>
    split
    next => exact baysLaw_resetAll _ _ _
    next => exact h.congr rfl rfl
  next => exact h.congr rfl rfl

/-! ## Intake -/

/-- An entry is appended, meets what it meets, and is started where its bay's engine has no work (R36, R47, R51). -/
theorem BaysLaw.append (h : BaysLaw NothingDue s) (ready : (s.bay b).life.state = .ready) {e : Entry}
    (queued : e.isQueued = true) (lawful : e.Lawful b) (m : Meeting) : BaysLaw NothingDue (s.append b e m) := by
  have appended : BaysLaw (DueIn b) (s.setList b ((s.bay b).list ++ [e])) :=
    ((h.others b).mono NothingDue.weaker).complete (s.setList_bay b · _) (fun _ _ => Iff.rfl)
      ((h b).1.appended ready rfl queued lawful) (h b).2
  unfold State.append
  exact (State.takeAfterAppend_induction (P := BaysLaw (DueIn b)) _ m appended (fun _ => appended.congr rfl rfl)
    (fun _ => appended.leaveUp) (fun _ _ _ => appended.congr rfl rfl)
    (fun _ => BaysLaw.leaveUp (appended.congr rfl rfl))).startDue

theorem BaysLaw.overtake (h : BaysLaw due s) (m : Meeting) : BaysLaw due (s.overtake b m) := by
  cases m
  case removal => exact h.takeRemoval
  all_goals exact h

/-- Only a READY bay admits (R96). -/
theorem BayState.ready_of_admitted {x : BayState} (h : x.refusal = none) : x = .ready := by
  revert h
  cases x <;> decide

/-- A well-formed request has bytes to move (R149). -/
theorem requestWellFormed_length {k : RequestKind} {f : RequestFields} (h : requestWellFormed k f = true) :
    0 < f.length.toNat := by
  simp [requestWellFormed, rangeWellFormed] at h
  omega

theorem storeWellFormed_length {f : StoreFields} (h : storeWellFormed f = true) : 0 < f.length.toNat := by
  simp [storeWellFormed, rangeWellFormed] at h
  omega

theorem BaysLaw.routeRequest (h : BaysLaw NothingDue s) (k : RequestKind) {f : RequestFields}
    (length : 0 < f.length.toNat) (m : Meeting) : BaysLaw NothingDue (s.routeRequest k f m) := by
  unfold State.routeRequest
  split
  next => exact h.congr (by simp) (by simp)
  next w _ =>
    have kept : BaysLaw NothingDue (s.overtake w.bay m) := h.overtake m
    dsimp only
    split
    next => exact kept.congr (by simp) (by simp)
    next =>
      split
      next => exact kept.congr (by simp) (by simp)
      next admitted =>
        have lawful : (Entry.request (newEntry k f (some (w.translate f.address.toNat)))).Lawful w.bay :=
          ⟨⟨_, rfl, rfl⟩, length, fun e => (by cases e), rfl⟩
        exact kept.append (BayState.ready_of_admitted admitted) rfl lawful m

theorem BaysLaw.intakeRequest (h : BaysLaw NothingDue s) (k : RequestKind) (fields : Option RequestFields)
    (m : Meeting) : BaysLaw NothingDue (s.intakeRequest k fields m) := by
  refine State.withCredit_induction (P := BaysLaw NothingDue) s .request _ h (h.congr (by simp) (by simp)) ?_
  have consumed : BaysLaw NothingDue (s.consumed .request) := h.congr rfl rfl
  split
  next => exact consumed.congr (by simp) (by simp)
  next f =>
    split
    next => exact consumed.congr (by simp) (by simp)
    next wellFormed =>
      split
      next => exact consumed.congr (by simp) (by simp)
      next => exact consumed.routeRequest k (requestWellFormed_length (by simpa using wellFormed)) m

theorem BaysLaw.routeStore (h : BaysLaw NothingDue s) {f : StoreFields} (length : 0 < f.length.toNat) (m : Meeting) :
    BaysLaw NothingDue (s.routeStore f m) := by
  unfold State.routeStore
  split
  next => exact h.congr (by simp) (by simp)
  next w _ =>
    have kept : BaysLaw NothingDue (s.overtake w.bay m) := h.overtake m
    dsimp only
    split
    next => exact kept.congr (by simp) (by simp)
    next =>
      split
      next => exact kept.congr (by simp) (by simp)
      next admitted =>
        have lawful : (Entry.store (newStore f (w.translate f.address.toNat))).Lawful w.bay :=
          ⟨⟨_, rfl, rfl⟩, length, trivial⟩
        exact kept.append (BayState.ready_of_admitted admitted) rfl lawful m

theorem BaysLaw.intakeStore (h : BaysLaw NothingDue s) (fields : Option StoreFields) (m : Meeting) :
    BaysLaw NothingDue (s.intakeStore fields m) := by
  refine State.withCredit_induction (P := BaysLaw NothingDue) s .store _ h (h.congr (by simp) (by simp)) ?_
  have consumed : BaysLaw NothingDue (s.consumed .store) := h.congr rfl rfl
  split
  next => exact consumed.congr (by simp) (by simp)
  next f =>
    split
    next => exact consumed.congr (by simp) (by simp)
    next wellFormed => exact consumed.routeStore (storeWellFormed_length (by simpa using wellFormed)) m

/-! ## The management commands -/

/-- No law names the policy (R95). -/
theorem BaysLaw.commandBayPolicy (h : BaysLaw due s) (o : List Byte) : BaysLaw due (commandBayPolicy o s).after := by
  unfold Machine.commandBayPolicy
  split
  next => exact h
  next c policy _ => exact h.updLife_same (b := c) (h c).1.life rfl rfl rfl

/-- POWER_ON names a supply that is on (R81). -/
theorem powerOnOperands_supply {o : List Byte} {supply : Supply} (h : powerOnOperands o = some (b, supply)) :
    supply ≠ .none := by
  unfold powerOnOperands at h
  split at h
  next bay x =>
    split at h
    next _ y _ operand =>
      injection h with h
      injection h with _ h
      subst h
      unfold supplyOperand at operand
      split at operand <;> cases operand <;> decide
    next => cases h
  next => cases h

theorem BaysLaw.commandPowerOn (h : BaysLaw due s) (o : List Byte) : BaysLaw due (commandPowerOn o s).after := by
  unfold Machine.commandPowerOn
  split
  next => exact h
  next c supply operands =>
    have on := powerOnOperands_supply operands
    split
    case h_4 | h_5 =>
      rename_i state
      split
      next => exact h.enterPowering on (by simp [state])
      next => exact h
    all_goals exact h

theorem BaysLaw.commandBayRestart (h : BaysLaw due s) (o : List Byte) : BaysLaw due (commandBayRestart o s).after := by
  unfold Machine.commandBayRestart
  split
  next => exact h
  next c _ =>
    split
    case h_1 | h_2 =>
      rename_i state
      exact h.enterIdentifying (by simp [state])
    all_goals exact h

/-- Four commands change a bay; the others leave the bays and the bus alone, whatever they answer. -/
theorem BaysLaw.commandByCode (h : BaysLaw due s) (code : Byte) (o : List Byte) :
    BaysLaw due (commandByCode code o s).after := by
  apply commandByCode_induction (P := fun r => BaysLaw due r.after) s o
  case refuse => exact fun _ => h
  case bayPolicy => exact h.commandBayPolicy o
  case powerOn => exact h.commandPowerOn o
  case quiesce => exact h.commandQuiesce o
  case bayRestart => exact h.commandBayRestart o
  all_goals
    simp only [commandIdentify, commandWindowWrite, commandWindowRead, commandWindowClear, commandWindowClearBay,
      commandBayStatus, commandEventRead, commandEventEnable, commandEventClear, commandEventInject,
      commandCountersRead, commandBridgeReset]
    (repeat' split) <;> exact h.congr rfl rfl

theorem BaysLaw.intake (h : BaysLaw NothingDue s) (p : Packet) (m : Meeting) : BaysLaw NothingDue (s.intake p m) := by
  cases p with
  | fetch f => exact h.intakeRequest .fetch f m
  | store f => exact h.intakeStore f m
  | portFetch f => exact h.intakeRequest .portFetch f m
  | portStore f => exact h.intakeRequest .portStore f m
  | mgmt seq code o => exact h.intakeMgmt seq _ (fun _ hu => hu.commandByCode code o)
  | mgmtShort => exact h.congr (by simp [State.intake]) (by simp [State.intake])
  | unknownKind => exact h.congr (by simp [State.intake]) (by simp [State.intake])

/-! ## Every command -/

/-- A controller that awaits a timer is in that timer's state (R74). -/
theorem Lifecycle.state_of_awaits {l : Lifecycle} {x : BayState} {timer : LifecycleTimer}
    (h : l.awaits x timer = true) : l.state = x := by
  simp only [Lifecycle.awaits, Bool.and_eq_true, beq_iff_eq] at h
  exact h.1

/-- MRST is released and PROFILING is entered (R84). -/
theorem BaysLaw.released (h : BaysLaw due s) (state : (s.bay b).life.state = .resetting) :
    BaysLaw due (s.updLife b Lifecycle.released) :=
  h.updLife_idle ((h b).1.withoutWork (by rw [state]; rfl) (by rw [state]; intro e; cases e))
    ((h b).1.life.released state) (by rw [state]; rfl) rfl rfl

/-- Every command keeps the laws of the bays and of the bus. -/
theorem exec_baysLaw (i : Instr) (s t : State) (h : BaysLaw NothingDue s) (e : exec i s = .next t) :
    BaysLaw NothingDue t := by
  apply exec_induction (P := BaysLaw NothingDue) s (h := e)
  case reset => exact fun _ _ => baysLaw_resetAll _ _ _
  case deferredReset => exact fun _ _ => baysLaw_resetAll _ _ _
  case accept => exact fun p m _ => BaysLaw.intake (s := s.setLink s.link.activity.accept) (h.congr rfl rfl) p m
  case ackReceived => exact fun n _ => h.takeAck n
  case leaveUp => exact fun _ => h.leaveUp
  case exhaustion => exact fun _ => BaysLaw.leaveUp (s := s.setLink _) (h.congr rfl rfl)
  case intake => exact h.intake
  case busGrant => exact fun _ => h.grantBus
  case held => exact fun _ _ _ => h.held
  case endCycle => exact fun _ c _ error lanes running => h.endCycle running c error lanes
  case timeoutCycle => exact fun _ _ before running => h.timeoutCycle running before
  case contactAsserted => exact fun _ => h.contactAsserted
  case contactDeasserted => exact fun _ => h.contactDeasserted
  case stablePresence =>
    exact fun _ awaits => (h.enterIdentifying (.inl (Lifecycle.state_of_awaits awaits))).congr (by simp) (by simp)
  case removal => exact fun b _ _ => (h.others b).removeModule
  case identify => exact fun _ c awaits => h.identify c (Lifecycle.state_of_awaits awaits)
  case pgoodTaken =>
    intro b awaits
    have state : (s.bay b).life.state = .powering := by
      simp only [Lifecycle.awaitsPgood, Bool.and_eq_true, beq_iff_eq] at awaits
      exact awaits.1
    refine (h.setPgood true).updLife_same ?_ ?_ ?_ ?_ <;> rw [State.setPgood_bay, if_pos rfl]
    · exact (h b).1.life.pgoodArrived state
    all_goals rfl
  case pgoodLevel => exact fun _ level _ _ => h.setPgood level
  case powerGoodWait =>
    intro b awaits
    have state := Lifecycle.state_of_awaits awaits
    exact h.enterFaulted (by rw [state]; rfl) (by rw [state]; decide) _
  case powerSettle =>
    intro b awaits
    have state := Lifecycle.state_of_awaits awaits
    exact h.updLife_idle ((h b).1.withoutWork (by rw [state]; rfl) (by rw [state]; intro e; cases e))
      ((h b).1.life.resetting state) (by rw [state]; rfl) rfl rfl
  case pgoodLost => exact fun _ => h.pgoodLost
  case released => exact fun _ awaits => h.released (Lifecycle.state_of_awaits awaits)
  case releasedReady =>
    exact fun _ awaits => (h.released (Lifecycle.state_of_awaits awaits)).takeMrdy (by simp [Lifecycle.released])
      (by simp [Lifecycle.released])
  case mrdy => exact fun _ => h.takeMrdy
  case readyTimeout =>
    intro b awaits
    have state := Lifecycle.state_of_awaits awaits
    exact h.enterFaulted (by rw [state]; rfl) (by rw [state]; decide) _
  case quiesced => exact fun _ => h.completeQuiesce
  -- what remains leaves the bays and the bus alone
  all_goals intros; exact h.congr (by simp) (by simp)

end

/-- Settles O56: the laws hold with nothing due, and every command keeps them so. -/
theorem bayLawIsKept : Obligations.BayLawIsKept := fun _ _ law e =>
  bayLaw_iff.2 (step_of_exec (P := BaysLaw NothingDue) (fun _ _ h => h.congr rfl rfl) exec_baysLaw (bayLaw_iff.1 law) e)

end Sys2Proof.Machine

/-! SUPPORT. The tags in force and the answers, under each operation on a bay's list (R30, R32, R40 to R42, R44, R65): an
entry taken off a list hands its tag to its answer, so that no operation inside the bridge brings a tag into force. -/

namespace Sys2Proof.Machine

/-! ## Tags -/

/-- The tags that a bay list holds in force (R30). -/
def listTags (l : List Entry) : List (BitVec 6) := l.filterMap Entry.openTag

/-- The tags in force, bay by bay. -/
theorem State.tagsInForce_eq (s : State) :
    s.tagsInForce = BayId.all.flatMap (fun b => listTags (s.bay b).list) ++ s.answerOrder.map OpenEntry.tag := rfl

/-- An entry that has not been answered (R30, R35). -/
def Entry.Unanswered : Entry → Prop
  | .store _ => True
  | .request e => e.state ≠ .answerReady

theorem Entry.Lawful.unanswered {b : BayId} {e : Entry} (h : e.Lawful b) : e.Unanswered := by
  obtain ⟨_, _, unanswered⟩ := h
  cases e with
  | store e => trivial
  | request e => exact unanswered.1

theorem Entry.Unanswered.advanced {e : Entry} (h : e.Unanswered) (n : Nat) (read : List Byte) :
    (e.advanced n read).Unanswered := by
  cases e <;> exact h

/-- The answers of a purge are ready and have a status (R40, R41). -/
theorem purgeAnswers_ready (st : AnswerStatus) (l : List Entry) :
    ∀ x ∈ purgeAnswers st l, x.state = .answerReady ∧ x.status.isSome = true := by
  intro x mem
  obtain ⟨e, _, is⟩ := List.mem_filterMap.1 mem
  cases e with
  | store e => cases is
  | request e =>
    dsimp only at is
    split at is
    next => cases is
    next =>
      injection is with is
      subst is
      exact ⟨rfl, rfl⟩

/-- The answers of a purge have the tags that its entries held in force (R30, R41). -/
theorem purgeAnswers_tags (st : AnswerStatus) {l : List Entry} (h : ∀ e ∈ l, e.Unanswered) :
    (purgeAnswers st l).map OpenEntry.tag = listTags l := by
  induction l with
  | nil => rfl
  | cons e l ih =>
    obtain ⟨first, rest⟩ := List.forall_mem_cons.1 h
    have ih := ih rest
    unfold purgeAnswers listTags at ih ⊢
    cases e with
    | store e => simpa [List.filterMap_cons, Entry.openTag] using ih
    | request e =>
      cases state : e.state with
      | answerReady => exact absurd state first
      | orphaned => simpa [Entry.openTag, state] using ih
      | queued => simpa [Entry.openTag, state, OpenEntry.answered] using ih
      | active => simpa [Entry.openTag, state, OpenEntry.answered] using ih

theorem State.settleEntry_answerOrder (s : State) (b : BayId) (st : AnswerStatus) (e : Entry) :
    (s.settleEntry b st e).answerOrder = s.answerOrder ++ purgeAnswers st [e] := by
  cases e with
  | store e =>
    simp only [State.settleEntry]
    split <;> simp [purgeAnswers]
  | request e =>
    simp only [State.settleEntry]
    split
    next orphan => simp [purgeAnswers, orphan]
    next other => simp [purgeAnswers, other, State.joinAnswers]

theorem State.settleEntries_answerOrder (s : State) (b : BayId) (st : AnswerStatus) (l : List Entry) :
    (s.settleEntries b st l).answerOrder = s.answerOrder ++ purgeAnswers st l := by
  induction l generalizing s with
  | nil => simp [State.settleEntries, purgeAnswers]
  | cons e l ih =>
    have step : s.settleEntries b st (e :: l) = (s.settleEntry b st e).settleEntries b st l := rfl
    rw [step, ih, State.settleEntry_answerOrder, List.append_assoc]
    congr 1
    exact (List.filterMap_append (l := [e])).symm

/-! ## Operations that bring no tag into force -/

/-- From one state to the other the answers stay answers, no tag comes into force, and the link does not leave UP. -/
structure RequestsKept (s t : State) : Prop where
  answers : AnswerLaw s → AnswerLaw t
  tags : ∀ tag, t.tagsInForce.count tag ≤ s.tagsInForce.count tag
  link : t.link.state ≠ .up → s.link.state ≠ .up

theorem RequestLaw.kept {s t : State} (h : RequestLaw s) (k : RequestsKept s t) : RequestLaw t := by
  obtain ⟨answers, tags, down⟩ := h
  refine ⟨k.answers answers, List.nodup_iff_count_le_one.2 (fun tag => ?_), fun off => ?_⟩
  · exact (k.tags tag).trans (List.nodup_iff_count_le_one.1 tags tag)
  · have without := down (k.link off)
    refine List.eq_nil_iff_forall_not_mem.2 (fun tag mem => ?_)
    have := k.tags tag
    rw [without, List.count_nil] at this
    exact absurd (List.count_pos_iff.2 mem) (by omega)

theorem RequestsKept.refl (s : State) : RequestsKept s s := ⟨id, fun _ => le_rfl, id⟩

theorem RequestsKept.trans {s t u : State} (h : RequestsKept s t) (k : RequestsKept t u) : RequestsKept s u :=
  ⟨k.answers ∘ h.answers, fun tag => (k.tags tag).trans (h.tags tag), h.link ∘ k.link⟩

section
variable {s t : State} {b : BayId}

/-- The lists and the answers are as they were. -/
theorem RequestsKept.same (lists : ∀ c, (t.bay c).list = (s.bay c).list) (answers : t.answerOrder = s.answerOrder)
    (link : t.link.state ≠ .up → s.link.state ≠ .up) : RequestsKept s t := by
  refine ⟨fun h => ?_, fun tag => ?_, link⟩
  · unfold AnswerLaw
    rwa [answers]
  · rw [State.tagsInForce_eq, State.tagsInForce_eq, answers]
    simp only [lists]
    exact le_rfl

/-- Where one list and the answers change, the tags in force change by theirs. -/
theorem State.tagsInForce_count (others : ∀ c, b ≠ c → (t.bay c).list = (s.bay c).list) (tag : BitVec 6) :
    t.tagsInForce.count tag +
        ((listTags (s.bay b).list).count tag + (s.answerOrder.map OpenEntry.tag).count tag) =
      s.tagsInForce.count tag +
        ((listTags (t.bay b).list).count tag + (t.answerOrder.map OpenEntry.tag).count tag) := by
  have same : ∀ c, b ≠ c → (listTags (t.bay c).list).count tag = (listTags (s.bay c).list).count tag :=
    fun c ne => by rw [others c ne]
  have h0 := same .b0
  have h1 := same .b1
  have h2 := same .b2
  have h3 := same .b3
  have h4 := same .b4
  have h5 := same .b5
  simp only [State.tagsInForce_eq, BayId.all, List.flatMap_cons, List.flatMap_nil, List.count_append, List.count_nil]
  cases b <;> simp only [ne_eq, reduceCtorEq, not_false_eq_true, forall_const] at h0 h1 h2 h3 h4 h5 <;> omega

/-- The bays and the answers are as they were. -/
theorem RequestLaw.same (h : RequestLaw s) (bays : t.bays = s.bays) (answers : t.answerOrder = s.answerOrder)
    (link : t.link.state ≠ .up → s.link.state ≠ .up) : RequestLaw t :=
  h.kept (RequestsKept.same (fun c => by rw [State.bay, bays]; rfl) answers link)

/-- One list changes, and the tags that it and the answers hold are among those they held. -/
theorem RequestsKept.ofList (others : ∀ c, b ≠ c → (t.bay c).list = (s.bay c).list)
    (answers : AnswerLaw s → AnswerLaw t)
    (tags : ∀ tag, (listTags (t.bay b).list).count tag + (t.answerOrder.map OpenEntry.tag).count tag ≤
      (listTags (s.bay b).list).count tag + (s.answerOrder.map OpenEntry.tag).count tag)
    (link : t.link.state ≠ .up → s.link.state ≠ .up) : RequestsKept s t := by
  refine ⟨answers, fun tag => ?_, link⟩
  have change := State.tagsInForce_count others tag
  have own := tags tag
  omega

/-- Entries leave a list and are answered, dropped or freed: their tags go over to their answers (R32, R41, R65). -/
theorem RequestsKept.settled {l kept : List Entry} (st : AnswerStatus)
    (others : ∀ c, b ≠ c → (t.bay c).list = (s.bay c).list) (list : (t.bay b).list = kept)
    (all : (s.bay b).list.Perm (kept ++ l)) (unanswered : ∀ e ∈ l, e.Unanswered)
    (answers : t.answerOrder = s.answerOrder ++ purgeAnswers st l) (link : t.link = s.link) : RequestsKept s t := by
  refine RequestsKept.ofList others (fun h => ?_) (fun tag => ?_) (by rw [link]; exact id)
  · unfold AnswerLaw
    rw [answers]
    exact List.forall_mem_append.2 ⟨h, purgeAnswers_ready st l⟩
  · have count := (all.filterMap Entry.openTag).count_eq tag
    have settled := congrArg (List.count tag) (purgeAnswers_tags st unanswered)
    rw [answers, list, List.map_append, List.count_append]
    simp only [listTags, List.filterMap_append, List.count_append] at count settled ⊢
    omega

end

end Sys2Proof.Machine

/-! PROOF. Every step keeps the answers in order, the tags in force different, and none in force while the link is not UP
(R30, R32, R40, R44). -/

namespace Sys2Proof.Machine

section
variable {s t : State} {b : BayId} {due : BayId → Prop}

/-- No entry of the bay's list has been answered. -/
def State.UnansweredAt (s : State) (b : BayId) : Prop := ∀ e ∈ (s.bay b).list, e.Unanswered

theorem BaysLaw.unanswered (h : BaysLaw due s) (b : BayId) : s.UnansweredAt b :=
  fun e mem => ((h b).1.entries e mem).unanswered

/-! ## Lists that are emptied -/

/-- The head of a list ends (R37, R65). -/
theorem State.UnansweredAt.endHead (h : s.UnansweredAt b) (st : AnswerStatus) : RequestsKept s (s.endHead b st) := by
  cases list : (s.bay b).list with
  | nil =>
    have nothing : s.endHead b st = s := by simp [State.endHead, list]
    rw [nothing]
    exact RequestsKept.refl s
  | cons e rest =>
    refine RequestsKept.settled (b := b) (l := [e]) (kept := rest) st (fun c ne => by simp [ne]) (by simp [list])
      (by rw [list]; exact (List.perm_append_singleton e rest).symm)
      (fun x mem => h x (by simp_all)) ?_ (by simp)
    simp [State.endHead, list, State.settleEntry_answerOrder]

/-- A purge (R41). -/
theorem State.UnansweredAt.purge (h : s.UnansweredAt b) (st : AnswerStatus) : RequestsKept s (s.purge b st) :=
  RequestsKept.settled (b := b) (l := (s.bay b).list) (kept := []) st (fun c ne => by simp [ne]) (by simp) (by simp) h
    (by simp [State.purge, State.settleEntries_answerOrder]) (by simp)

/-- A purge behind the head (R42). -/
theorem State.UnansweredAt.purgeBehindHead (h : s.UnansweredAt b) (st : AnswerStatus) :
    RequestsKept s (s.purgeBehindHead b st) := by
  refine RequestsKept.settled (b := b) (l := (s.bay b).list.tail) (kept := (s.bay b).list.take 1) st
    (fun c ne => by simp [ne]) (by simp) ?_ (fun e mem => h e (List.mem_of_mem_tail mem)) ?_ (by simp)
  · cases (s.bay b).list <;> simp
  · unfold State.purgeBehindHead
    split
    next list => simp [list, purgeAnswers]
    next list => simp [list, State.settleEntries_answerOrder]

/-! ## Leaving service -/

theorem State.stopEngine_kept (s : State) (b : BayId) : RequestsKept s (s.stopEngine b) := by
  refine RequestsKept.same (fun c => ?_) (by simp) (by simp)
  rw [State.stopEngine_bay]
  split
  next e => rw [e]
  next => rfl

/-- The entries stay when an engine stops. -/
theorem State.UnansweredAt.stopEngine (h : s.UnansweredAt b) : (s.stopEngine b).UnansweredAt b := by
  unfold State.UnansweredAt
  rw [State.stopEngine_bay, if_pos rfl]
  exact h

theorem State.UnansweredAt.enterFaulted (h : s.UnansweredAt b) (r : FaultReason) :
    RequestsKept s (s.enterFaulted b r) := by
  have purged := (s.stopEngine_kept b).trans (h.stopEngine.purge .bayFault)
  refine purged.trans (RequestsKept.same (fun c => ?_) (by simp [State.enterFaulted]) (by simp))
  by_cases own : b = c <;> simp [own, Bay.faulted]

theorem State.UnansweredAt.removeModule (h : s.UnansweredAt b) : RequestsKept s (s.removeModule b) := by
  have purged := (s.stopEngine_kept b).trans (h.stopEngine.purge .gone)
  refine purged.trans (RequestsKept.same (fun c => ?_) (by simp [State.removeModule]) (by simp))
  have emptied : (s.bay b).emptied.detect.list = [] := (s.bay b).emptied.detect_rest.2.1
  rw [State.removeModule_bay, State.purge_bay]
  split
  next => rw [emptied]
  next ne => simp [ne]

theorem State.UnansweredAt.takeRemoval (h : s.UnansweredAt b) : RequestsKept s (s.takeRemoval b) := by
  unfold State.takeRemoval
  split
  next => exact h.removeModule
  next => exact RequestsKept.refl s

/-- A change of the controller or of the engine of one bay keeps every list. -/
theorem RequestsKept.updLife (f : Lifecycle → Lifecycle) : RequestsKept s (s.updLife b f) :=
  RequestsKept.same (fun c => by rw [State.updLife_bay]; split <;> simp_all) rfl id

theorem RequestsKept.updEngine (f : Engine → Engine) : RequestsKept s (s.updEngine b f) :=
  RequestsKept.same (fun c => by rw [State.updEngine_bay]; split <;> simp_all) rfl id

theorem RequestsKept.setBay {x : Bay} (list : x.list = (s.bay b).list) : RequestsKept s (s.setBay b x) :=
  RequestsKept.same (fun c => by rw [State.setBay_bay]; split <;> simp_all) rfl id

theorem State.completeQuiesce_kept (s : State) (b : BayId) : RequestsKept s (s.completeQuiesce b) :=
  RequestsKept.same (fun c => by rw [State.completeQuiesce_bay]; split <;> simp_all [Bay.quiesceDone]) (by simp)
    (by simp)

theorem State.completeIfEmpty_kept (s : State) (b : BayId) : RequestsKept s (s.completeIfEmpty b) := by
  unfold State.completeIfEmpty
  split
  next => exact s.completeQuiesce_kept b
  next => exact RequestsKept.refl s

theorem State.quiesceAtOnce_kept (s : State) (b : BayId) : RequestsKept s (s.quiesceAtOnce b) :=
  RequestsKept.same (fun c => by rw [State.quiesceAtOnce_bay]; split <;> simp_all) (by simp) (by simp)

theorem State.UnansweredAt.abandon (h : s.UnansweredAt b) : RequestsKept s (s.abandon b) := by
  unfold State.abandon
  split
  next =>
    have same : (s.updEngine b (fun e => { e with stopAfterCycle := true })).UnansweredAt b := by
      simpa [State.UnansweredAt] using h
    exact (RequestsKept.updEngine _).trans (same.purgeBehindHead .quiesced)
  next => exact (s.stopEngine_kept b).trans (h.stopEngine.purge .quiesced)

theorem State.UnansweredAt.updLife (h : s.UnansweredAt b) (f : Lifecycle → Lifecycle) :
    (s.updLife b f).UnansweredAt b := by
  simpa [State.UnansweredAt] using h

theorem State.UnansweredAt.enterQuiescing (h : s.UnansweredAt b) (mode : QuiesceMode) :
    RequestsKept s (s.enterQuiescing b mode) := by
  unfold State.enterQuiescing
  cases mode with
  | drain => exact (RequestsKept.updLife _).trans (State.completeIfEmpty_kept _ b)
  | abandon => exact ((RequestsKept.updLife _).trans (h.updLife _).abandon).trans (State.completeIfEmpty_kept _ b)

theorem State.UnansweredAt.convertDrain (h : s.UnansweredAt b) : RequestsKept s (s.convertDrain b) :=
  ((RequestsKept.updLife _).trans (h.updLife _).abandon).trans (State.completeIfEmpty_kept _ b)

/-- QUIESCE, by the state it finds (R107 to R113). -/
theorem BaysLaw.commandQuiesce_kept (h : BaysLaw due s) (o : List Byte) :
    RequestsKept s (Machine.commandQuiesce o s).after := by
  unfold Machine.commandQuiesce
  split
  next => exact RequestsKept.refl s
  next c mode _ =>
    split
    case h_9 => exact (h.unanswered c).enterQuiescing mode
    case h_10 =>
      split
      next => exact (h.unanswered c).convertDrain
      next => exact RequestsKept.refl s
    case h_1 | h_2 | h_3 | h_11 => exact RequestsKept.refl s
    all_goals exact s.quiesceAtOnce_kept c

/-! ## The start and the end of requests -/

/-- A start takes a QUEUED entry to ACTIVE, with its tag (R30, R32). -/
theorem Entry.activated_openTag {e : Entry} (queued : e.isQueued = true) : e.activated.openTag = e.openTag := by
  cases e with
  | store e => rfl
  | request e => simp_all [Entry.isQueued, Entry.activated, Entry.openTag]

theorem Bay.startRequest_tags (bay : Bay) : listTags bay.startRequest.list = listTags bay.list := by
  unfold Bay.startRequest
  split
  next => rfl
  next head rest list =>
    split
    next => rfl
    next =>
      split
      next c =>
        obtain ⟨_, _, queued, _⟩ := c
        simp [list, listTags, List.filterMap_cons, Entry.activated_openTag queued]
      next => rfl

theorem State.startRequest_kept (s : State) (b : BayId) : RequestsKept s (s.startRequest b) := by
  refine RequestsKept.ofList (b := b) (fun c ne => by simp [ne]) (fun h => ?_) (fun tag => ?_) (by simp)
  · simpa [AnswerLaw] using h
  · simp [Bay.startRequest_tags]

theorem State.UnansweredAt.finishRequest (h : s.UnansweredAt b) (st : AnswerStatus) :
    RequestsKept s (s.finishRequest b st) :=
  (h.endHead st).trans (RequestsKept.updEngine _)

theorem State.UnansweredAt.endRequest (h : s.UnansweredAt b) (st : AnswerStatus) :
    RequestsKept s (s.endRequest b st) :=
  (h.finishRequest st).trans (State.startRequest_kept _ b)

/-! ## The cycles -/

theorem State.releaseBus_kept (s : State) (b : BayId) : RequestsKept s (s.releaseBus b) :=
  RequestsKept.same (fun c => by simp) (by simp) (by simp)

/-- The release of the bus leaves the lists alone. -/
theorem State.UnansweredAt.releaseBus (h : s.UnansweredAt b) : (s.releaseBus b).UnansweredAt b := by
  simpa [State.UnansweredAt] using h

theorem State.UnansweredAt.updEngine (h : s.UnansweredAt b) (f : Engine → Engine) :
    (s.updEngine b f).UnansweredAt b := by
  simpa [State.UnansweredAt] using h

theorem State.enterReady_kept (s : State) (b : BayId) (p : ProfileSummary) : RequestsKept s (s.enterReady b p) :=
  RequestsKept.same (fun c => by rw [State.enterReady_bay]; split <;> simp_all [Bay.readied]) (by simp) (by simp)

theorem State.UnansweredAt.profileOutcome (h : s.UnansweredAt b) (bytes : Option (List Byte)) :
    RequestsKept s (s.profileOutcome b bytes) := by
  unfold State.profileOutcome
  dsimp only
  split
  next =>
    split
    next p _ => exact (RequestsKept.updEngine _).trans (State.enterReady_kept _ b p)
    next => exact (RequestsKept.updEngine _).trans ((h.updEngine _).enterFaulted .profileBad)
  next => exact RequestsKept.updEngine _

theorem State.UnansweredAt.profileByte (h : s.UnansweredAt b) (byte : Byte) :
    RequestsKept s (s.profileByte b byte) := by
  unfold State.profileByte
  dsimp only
  split
  next => exact (RequestsKept.updEngine _).trans ((h.updEngine _).profileOutcome _)
  next => exact (RequestsKept.updEngine _).trans (RequestsKept.updEngine _)

/-- The end of a cycle changes the bytes of the head, and may end the request (R55, R65). -/
theorem State.UnansweredAt.requestCycleDone (h : s.UnansweredAt b) (c : Cycle) (lanes : BitVec 16) :
    RequestsKept s (s.requestCycleDone b c lanes) := by
  unfold State.requestCycleDone
  split
  next => exact RequestsKept.updEngine _
  next head rest list =>
    obtain ⟨_, _, _, tag⟩ := head.advanced_rest c.bytes (c.readBytes lanes)
    obtain ⟨first, behind⟩ := List.forall_mem_cons.1 (fun e mem => h e (by rwa [list]))
    have advanced : RequestsKept s (s.setList b (head.advanced c.bytes (c.readBytes lanes) :: rest)) :=
      RequestsKept.ofList (b := b) (fun d ne => by simp [ne]) id
        (fun x => by simp [listTags, List.filterMap_cons, list, tag]) id
    have still : (s.setList b (head.advanced c.bytes (c.readBytes lanes) :: rest)).UnansweredAt b := by
      unfold State.UnansweredAt
      rw [State.setList_bay, if_pos rfl]
      exact List.forall_mem_cons.2 ⟨first.advanced _ _, behind⟩
    dsimp only
    split
    next => exact advanced.trans (still.endRequest .quiesced)
    next =>
      split
      next => exact advanced.trans (still.endRequest .ok)
      next => exact advanced.trans (RequestsKept.updEngine _)

theorem State.UnansweredAt.endCycle (h : s.UnansweredAt b) (c : Cycle) (error : Bool) (lanes : BitVec 16) :
    RequestsKept s (s.endCycle b c error lanes) := by
  refine (s.releaseBus_kept b).trans ?_
  have h := h.releaseBus
  unfold State.endCycle
  dsimp only
  split
  next => exact RequestsKept.updEngine _
  next =>
    split
    next => exact h.profileOutcome none
    next => exact h.profileByte _
  next =>
    split
    next => exact h.endRequest _
    next => exact h.requestCycleDone c lanes

theorem State.setPgood_kept (s : State) (b : BayId) (level : Bool) : RequestsKept s (s.setPgood b level) :=
  RequestsKept.setBay rfl

theorem State.UnansweredAt.pgoodLost (h : s.UnansweredAt b) :
    RequestsKept s ((s.setPgood b false).enterFaulted b .powerFail) := by
  have same : (s.setPgood b false).UnansweredAt b := by simpa [State.UnansweredAt] using h
  exact (s.setPgood_kept b false).trans (same.enterFaulted .powerFail)

/-- A MGMT packet brings no tag into force if its command does not. -/
theorem State.intakeMgmt_kept (s : State) (seq : Byte) (command : State → CommandResult)
    (keeps : RequestsKept (s.consumed .mgmt) (command (s.consumed .mgmt)).after) :
    RequestsKept s (s.intakeMgmt seq command) := by
  refine State.withCredit_induction (P := RequestsKept s) s .mgmt _ (RequestsKept.refl s)
    (RequestsKept.same (by simp) (by simp) (by simp)) ?_
  have consumed : RequestsKept s (s.consumed .mgmt) := RequestsKept.same (fun _ => rfl) rfl id
  unfold State.acceptMgmt
  split
  next => exact consumed.trans (RequestsKept.same (fun _ => rfl) rfl id)
  next => exact (consumed.trans keeps).trans (RequestsKept.same (fun _ => rfl) rfl id)

/-- What is taken ahead of a report (R67, R104, R112; log 17). -/
theorem BaysLaw.takeBefore_kept (h : BaysLaw due s) (b : BayId) (before : BeforeReport) :
    RequestsKept s (s.takeBefore b before) := by
  cases before with
  | nothing => exact RequestsKept.refl s
  | quiesceCompletion =>
    show RequestsKept s (s.takeQuiesceCompletion b)
    unfold State.takeQuiesceCompletion
    split
    next => exact s.completeQuiesce_kept b
    next => exact RequestsKept.refl s
  | removal => exact (h.unanswered b).takeRemoval
  | pgoodLoss =>
    show RequestsKept s (s.takePgoodLoss b)
    unfold State.takePgoodLoss
    split
    next => exact (h.unanswered b).pgoodLost
    next => exact s.setPgood_kept b false
  | quiesce seq o =>
    have consumed : BaysLaw due (s.consumed .mgmt) := h.congr rfl rfl
    exact s.intakeMgmt_kept seq _ (consumed.commandQuiesce_kept o)

theorem State.UnansweredAt.reportUnresponsive (h : s.UnansweredAt b) : RequestsKept s (s.reportUnresponsive b) := by
  unfold State.reportUnresponsive
  split
  next => exact h.enterFaulted .unresponsive
  next => exact RequestsKept.refl s

/-- The end of a cycle by the access timer (R63, R65, R67). -/
theorem BaysLaw.timeoutCycle_kept (h : BaysLaw NothingDue s) (b : BayId) (before : BeforeReport) :
    RequestsKept s (s.timeoutCycle b before) := by
  refine (s.releaseBus_kept b).trans ?_
  have unanswered := (h.unanswered b).releaseBus
  have freed := h.freed b
  unfold State.timeoutCycle
  dsimp only
  split
  next => exact RequestsKept.updEngine _
  next => exact unanswered.profileOutcome none
  next work =>
    split
    next => exact unanswered.endRequest .quiesced
    next =>
      unfold State.timeoutRequest
      split
      next =>
        have finished := freed.finishRequest work .bayTimeout
        exact ((unanswered.finishRequest .bayTimeout).trans (finished.takeBefore_kept b before)).trans
          ((finished.takeBefore before).unanswered b).reportUnresponsive
      next => exact unanswered.endRequest .bayTimeout

/-! ## Where no tag is in force -/

/-- Without answers, and with lists that hold no tag, the laws hold (R30, R44, R49). -/
theorem requestLaw_of_none (answers : t.answerOrder = []) (lists : ∀ c, listTags (t.bay c).list = []) :
    RequestLaw t := by
  have without : t.tagsInForce = [] := by
    rw [State.tagsInForce_eq, answers]
    simp [lists]
  refine ⟨fun e mem => ?_, ?_, fun _ => without⟩
  · rw [answers] at mem
    cases mem
  · unfold TagLaw
    rw [without]
    exact List.nodup_nil

theorem requestLaw_resetAll (s : State) (epoch : Byte) (straps : BitVec 4) : RequestLaw (s.resetAll epoch straps) :=
  requestLaw_of_none rfl (fun c => by rw [State.resetAll_bay, (s.bay c).afterReset_frame.2.1]; rfl)

/-- Link loss leaves no tag in force (R44). -/
theorem requestLaw_leaveUp (s : State) : RequestLaw s.leaveUp := by
  unfold State.leaveUp
  split
  next => exact requestLaw_resetAll _ _ _
  next =>
    refine requestLaw_of_none rfl (fun c => ?_)
    rw [State.departUp_bay]
    refine List.filterMap_eq_nil_iff.2 (fun x mem => ?_)
    obtain ⟨e, _, is⟩ := List.mem_filterMap.1 mem
    exact (Entry.afterLinkLoss_spec (b := c) is).2.2

/-! ## Intake -/

/-- Tags that are not in force come into force in UP, each once (R30, R151). -/
theorem RequestLaw.withTags (h : RequestLaw s) (answers : AnswerLaw s → AnswerLaw t) (new : List (BitVec 6))
    (tags : ∀ tag, t.tagsInForce.count tag = s.tagsInForce.count tag + new.count tag) (once : new.Nodup)
    (fresh : ∀ tag ∈ new, tag ∉ s.tagsInForce) (up : t.link.state = .up) : RequestLaw t := by
  obtain ⟨ready, different, _⟩ := h
  refine ⟨answers ready, List.nodup_iff_count_le_one.2 (fun tag => ?_), fun off => absurd up off⟩
  have old := List.nodup_iff_count_le_one.1 different tag
  have one := List.nodup_iff_count_le_one.1 once tag
  rw [tags]
  by_cases mem : tag ∈ new
  · rw [List.count_eq_zero_of_not_mem (fresh tag mem)]
    omega
  · rw [List.count_eq_zero_of_not_mem mem]
    omega

/-- An entry joins a list in UP, with a tag that is not in force (R30, R36, R151). -/
theorem RequestLaw.appended (h : RequestLaw s) (up : s.link.state = .up) {e : Entry}
    (fresh : ∀ tag, e.openTag = some tag → tag ∉ s.tagsInForce) :
    RequestLaw (s.setList b ((s.bay b).list ++ [e])) := by
  refine h.withTags id e.openTag.toList (fun tag => ?_) ?_ (fun tag mem => fresh tag (by simpa using mem)) up
  · have change := State.tagsInForce_count (s := s) (t := s.setList b ((s.bay b).list ++ [e])) (b := b)
      (fun c ne => by simp [ne]) tag
    have new : listTags [e] = e.openTag.toList := by
      cases tag : e.openTag <;> simp [listTags, tag]
    rw [State.setList_bay, if_pos rfl, State.setList_answerOrder] at change
    simp only [listTags, List.filterMap_append, List.count_append] at change new
    rw [← new]
    omega
  · cases e.openTag <;> simp

/-- An answer joins the order in UP, with a tag that is not in force (R31, R40, R151). -/
theorem RequestLaw.refuseRequest (h : RequestLaw s) (up : s.link.state = .up) {e : OpenEntry}
    (fresh : e.tag ∉ s.tagsInForce) (st : AnswerStatus) : RequestLaw (s.refuseRequest e st) := by
  refine h.withTags (fun ready => ?_) [e.tag] (fun tag => ?_) (List.nodup_singleton _) (by simpa using fresh)
    (by simpa using up)
  · exact List.forall_mem_append.2 ⟨ready, by simp⟩
  · have joined : (s.refuseRequest e st).tagsInForce = s.tagsInForce ++ [e.tag] := by
      simp [State.tagsInForce_eq, State.refuseRequest, State.joinAnswers]
    rw [joined, List.count_append]

/-- An entry is appended, meets what it meets, and is started (R36, R47, R51). -/
theorem RequestLaw.append (h : RequestLaw s) (up : s.link.state = .up) {e : Entry}
    (fresh : ∀ tag, e.openTag = some tag → tag ∉ s.tagsInForce) (m : Meeting) : RequestLaw (s.append b e m) := by
  have appended : RequestLaw (s.setList b ((s.bay b).list ++ [e])) := h.appended up fresh
  have met : RequestLaw ((s.setList b ((s.bay b).list ++ [e])).takeAfterAppend m) :=
    State.takeAfterAppend_induction (P := RequestLaw) _ m appended
      (fun training => absurd (up.symm.trans training) (by decide)) (fun _ => requestLaw_leaveUp _)
      (fun _ _ _ => appended.same rfl rfl id) (fun _ => requestLaw_leaveUp _)
  exact met.kept (State.startRequest_kept _ b)

theorem BaysLaw.overtake_kept (h : BaysLaw due s) (b : BayId) (m : Meeting) : RequestsKept s (s.overtake b m) := by
  cases m
  case removal => exact (h.unanswered b).takeRemoval
  all_goals exact RequestsKept.refl s

/-- A tag that was not in force is not in force after an operation that brings none into force. -/
theorem RequestsKept.fresh (k : RequestsKept s t) {tag : BitVec 6} (h : tag ∉ s.tagsInForce) : tag ∉ t.tagsInForce := by
  have := k.tags tag
  rw [List.count_eq_zero_of_not_mem h] at this
  exact List.count_eq_zero.1 (by omega)

theorem RequestLaw.routeRequest (h : RequestLaw s) (bays : BaysLaw due s) (up : s.link.state = .up) (k : RequestKind)
    {f : RequestFields} (fresh : BitVec.ofNat 6 f.tag.toNat ∉ s.tagsInForce) (m : Meeting) :
    RequestLaw (s.routeRequest k f m) := by
  unfold State.routeRequest
  split
  next => exact h.refuseRequest up fresh .unmapped
  next w _ =>
    have kept := bays.overtake_kept w.bay m
    have up : (s.overtake w.bay m).link.state = .up := by simpa using up
    have fresh := kept.fresh fresh
    have h := h.kept kept
    dsimp only
    split
    next => exact h.refuseRequest up fresh .protectedWindow
    next =>
      split
      next st _ => exact h.refuseRequest up fresh st
      next =>
        refine h.append up (fun tag is => ?_) m
        injection is with is
        exact is ▸ fresh

/-- A store has no tag (R27). -/
theorem RequestLaw.routeStore (h : RequestLaw s) (bays : BaysLaw due s) (up : s.link.state = .up) (f : StoreFields)
    (m : Meeting) : RequestLaw (s.routeStore f m) := by
  unfold State.routeStore
  split
  next => exact h.same (by simp) (by simp) (by simp)
  next w _ =>
    have up : (s.overtake w.bay m).link.state = .up := by simpa using up
    have h := h.kept (bays.overtake_kept w.bay m)
    dsimp only
    split
    next => exact h.same (by simp) (by simp) (by simp)
    next =>
      split
      next => exact h.same (by simp) (by simp) (by simp)
      next => exact h.append up (fun tag is => (by cases is)) m

/-- The credit check lets a packet pass in UP alone (R147). -/
theorem RequestLaw.withCredit (h : RequestLaw s) (p : Pool) {next : State → State}
    (pass : s.link.state = .up → RequestLaw (s.consumed p) → RequestLaw (next (s.consumed p))) :
    RequestLaw (s.withCredit p next) := by
  by_cases up : s.link.state = .up
  · exact State.withCredit_induction (P := RequestLaw) s p next h
      (h.same (by simp) (by simp) (by simp))
      (pass up (h.same rfl rfl id))
  · rw [State.withCredit_notUp up]
    exact h

theorem RequestLaw.intakeRequest (h : RequestLaw s) (bays : BaysLaw due s) (k : RequestKind)
    (fields : Option RequestFields) (m : Meeting) : RequestLaw (s.intakeRequest k fields m) := by
  refine h.withCredit .request (fun up h => ?_)
  have consumed : BaysLaw due (s.consumed .request) := bays.congr rfl rfl
  split
  next => exact h.same (by simp) (by simp) (by simp)
  next f =>
    split
    next => exact h.same (by simp) (by simp) (by simp)
    next =>
      split
      next => exact h.same (by simp) (by simp) (by simp)
      next free => exact h.routeRequest consumed up k (fun mem => free ((State.tagInForce_iff _ _).2 mem)) m

theorem RequestLaw.intakeStore (h : RequestLaw s) (bays : BaysLaw due s) (fields : Option StoreFields) (m : Meeting) :
    RequestLaw (s.intakeStore fields m) := by
  refine h.withCredit .store (fun up h => ?_)
  have consumed : BaysLaw due (s.consumed .store) := bays.congr rfl rfl
  split
  next => exact h.same (by simp) (by simp) (by simp)
  next f =>
    split
    next => exact h.same (by simp) (by simp) (by simp)
    next => exact h.routeStore consumed up f m

/-! ## The management commands -/

/-- QUIESCE may end requests, and three more commands change a bay; no command brings a tag into force. -/
theorem BaysLaw.commandByCode_kept (h : BaysLaw due s) (code : Byte) (o : List Byte) :
    RequestsKept s (Machine.commandByCode code o s).after := by
  apply commandByCode_induction (P := fun r => RequestsKept s r.after) s o
  case refuse => exact fun _ => RequestsKept.refl s
  case quiesce => exact h.commandQuiesce_kept o
  case bayPolicy =>
    unfold Machine.commandBayPolicy
    split
    next => exact RequestsKept.refl s
    next c policy _ => exact RequestsKept.updLife (b := c) (fun l => { l with policy := policy })
  case powerOn =>
    unfold Machine.commandPowerOn
    split
    next => exact RequestsKept.refl s
    next =>
      split
      case h_4 | h_5 =>
        split
        next => exact RequestsKept.setBay rfl
        next => exact RequestsKept.refl s
      all_goals exact RequestsKept.refl s
  case bayRestart =>
    unfold Machine.commandBayRestart
    split
    next => exact RequestsKept.refl s
    next =>
      split
      case h_1 | h_2 => exact RequestsKept.setBay rfl
      all_goals exact RequestsKept.refl s
  all_goals
    simp only [commandIdentify, commandWindowWrite, commandWindowRead, commandWindowClear, commandWindowClearBay,
      commandBayStatus, commandEventRead, commandEventEnable, commandEventClear, commandEventInject,
      commandCountersRead, commandBridgeReset]
    (repeat' split) <;> exact RequestsKept.same (fun _ => rfl) rfl id

theorem RequestLaw.intake (h : RequestLaw s) (bays : BaysLaw due s) (p : Packet) (m : Meeting) :
    RequestLaw (s.intake p m) := by
  cases p with
  | fetch f => exact h.intakeRequest bays .fetch f m
  | store f => exact h.intakeStore bays f m
  | portFetch f => exact h.intakeRequest bays .portFetch f m
  | portStore f => exact h.intakeRequest bays .portStore f m
  | mgmt seq code o =>
    have consumed : BaysLaw due (s.consumed .mgmt) := bays.congr rfl rfl
    exact h.kept (s.intakeMgmt_kept seq _ (consumed.commandByCode_kept code o))
  | mgmtShort =>
    refine h.withCredit .mgmt (fun _ h => ?_)
    exact h.same (by simp) (by simp) (by simp)
  | unknownKind => exact h.same (by simp [State.intake]) (by simp [State.intake]) (by simp [State.intake])

/-! ## Every command -/

theorem RequestLaw.takeAck (h : RequestLaw s) (n : LinkSeq) : RequestLaw (s.takeAck n) := by
  unfold State.takeAck
  dsimp only
  split
  next =>
    split
    next => exact requestLaw_resetAll _ _ _
    next => exact h.same rfl rfl id
  next => exact h.same rfl rfl id

/-- The link's own events before UP leave every list alone (R178 to R181). -/
theorem RequestLaw.enterUpIfTrained (h : RequestLaw s) : RequestLaw s.enterUpIfTrained := by
  unfold State.enterUpIfTrained
  split
  next => exact h.same (by simp) (by simp) (fun off => absurd rfl off)
  next => exact h

/-- The placement of an ANSWER takes its tag out of force (R30, R33). -/
theorem RequestLaw.placeAnswerNow (h : RequestLaw s) {e : OpenEntry} {rest : List OpenEntry}
    (order : s.answerOrder = e :: rest) : RequestLaw (s.placeAnswerNow e rest) := by
  have answers : (s.placeAnswerNow e rest).answerOrder = rest := by simp [State.placeAnswerNow]
  refine h.kept (RequestsKept.ofList (b := .b0) (fun c _ => by simp) (fun ready x mem => ?_) (fun tag => ?_) ?_)
  · rw [answers] at mem
    exact ready x (by rw [order]; exact List.mem_cons_of_mem e mem)
  · rw [answers, order, State.placeAnswerNow_bay]
    simp only [List.map_cons, List.count_cons]
    omega
  · simp [State.placeAnswerNow, State.place, LinkUnit.place]

@[simp] theorem LinkUnit.sendResend_state (l : LinkUnit) : l.sendResend.state = l.state := by
  unfold LinkUnit.sendResend
  split <;> rfl

@[simp] theorem LinkUnit.accept_state (l : LinkUnit) : l.accept.state = l.state := by
  unfold LinkUnit.accept
  dsimp only
  split <;> rfl

@[simp] theorem LinkUnit.takeResend_state (l : LinkUnit) (n : LinkSeq) : (l.takeResend n).state = l.state := by
  unfold LinkUnit.takeResend
  dsimp only
  split <;> rfl

theorem State.UnansweredAt.identify (h : s.UnansweredAt b) (c : ModuleClass) : RequestsKept s (s.identify b c) := by
  unfold State.identify
  dsimp only
  split
  next => exact (RequestsKept.updLife _).trans ((h.updLife _).enterFaulted .unrecognized)
  next =>
    split
    next => exact (RequestsKept.updLife _).trans (RequestsKept.setBay rfl)
    next => exact (RequestsKept.updLife _).trans (RequestsKept.updLife _)

theorem State.takeMrdy_kept (s : State) (b : BayId) : RequestsKept s (s.takeMrdy b) := by
  unfold State.takeMrdy State.startProfileRead
  exact (RequestsKept.updLife _).trans (RequestsKept.updEngine _)

theorem State.grantBus_kept (s : State) (b : BayId) : RequestsKept s (s.grantBus b) := by
  unfold State.grantBus
  split
  next => exact RequestsKept.refl s
  next =>
    refine RequestsKept.same (fun c => ?_) rfl id
    by_cases own : b = c <;> simp [own]

/-- Every command keeps the laws of the open requests, in a bridge whose bays are lawful. -/
theorem exec_requestLaw (i : Instr) (s t : State) (bays : BaysLaw NothingDue s) (h : RequestLaw s)
    (e : exec i s = .next t) : RequestLaw t := by
  have unanswered := bays.unanswered
  apply exec_induction (P := RequestLaw) s (h := e)
  case nothing => exact h
  case reset => exact fun _ _ => requestLaw_resetAll _ _ _
  case deferredReset => exact fun _ _ => requestLaw_resetAll _ _ _
  case enterTraining => exact fun down => h.same rfl rfl (fun _ up => by rw [down] at up; cases up)
  case sendTrain => exact fun _ => RequestLaw.enterUpIfTrained (h.same rfl rfl id)
  case enterDown => exact fun training => h.same rfl rfl (fun _ up => by rw [training] at up; cases up)
  case countTrain => exact fun _ _ => RequestLaw.enterUpIfTrained (h.same rfl rfl id)
  case accept =>
    intro p m _
    have accepted : RequestLaw (s.setLink s.link.activity.accept) :=
      h.same rfl rfl (by simp [LinkUnit.activity])
    exact accepted.intake (bays.congr rfl rfl : BaysLaw NothingDue _) p m
  case ackReceived => exact fun n _ => h.takeAck n
  case leaveUp => exact fun _ => requestLaw_leaveUp _
  case exhaustion => exact fun _ => requestLaw_leaveUp _
  case intake => exact h.intake bays
  case busGrant => exact fun b _ => h.kept (s.grantBus_kept b)
  case held => exact fun _ _ _ _ => h.kept (RequestsKept.updEngine _)
  case endCycle => exact fun b c _ error lanes _ => h.kept ((unanswered b).endCycle c error lanes)
  case timeoutCycle => exact fun b _ before _ => h.kept (bays.timeoutCycle_kept b before)
  case contactAsserted => exact fun b c => h.kept (RequestsKept.setBay ((s.bay b).contactAsserted_rest c).2)
  case contactDeasserted => exact fun b c => h.kept (RequestsKept.setBay ((s.bay b).contactDeasserted_rest c).2)
  case stablePresence =>
    intro b _
    have entered : RequestLaw (s.setBay b (s.bay b).enterIdentifying) := h.kept (RequestsKept.setBay rfl)
    exact entered.same (by simp) (by simp) (by simp)
  case removal => exact fun b _ _ => h.kept (unanswered b).removeModule
  case identify => exact fun b c _ => h.kept ((unanswered b).identify c)
  case pgoodTaken => exact fun b _ => h.kept ((s.setPgood_kept b true).trans (RequestsKept.updLife _))
  case pgoodLevel => exact fun b level _ _ => h.kept (s.setPgood_kept b level)
  case powerGoodWait => exact fun b _ => h.kept ((unanswered b).enterFaulted _)
  case powerSettle => exact fun _ _ => h.kept (RequestsKept.updLife _)
  case pgoodLost => exact fun b _ => h.kept (unanswered b).pgoodLost
  case released => exact fun _ _ => h.kept (RequestsKept.updLife _)
  case releasedReady => exact fun b _ => h.kept ((RequestsKept.updLife _).trans (State.takeMrdy_kept _ b))
  case mrdy => exact fun b _ _ => h.kept (s.takeMrdy_kept b)
  case readyTimeout => exact fun b _ => h.kept ((unanswered b).enterFaulted _)
  case quiesced => exact fun b _ _ => h.kept (s.completeQuiesce_kept b)
  case placeGrant =>
    exact fun _ => h.same (by simp) (by simp) (by simp [State.placeGrantNow, State.place, LinkUnit.place])
  case placeResponse =>
    exact fun _ _ _ => h.same (by simp) (by simp) (by simp [State.placeResponseNow, State.place, LinkUnit.place])
  case placeAnswer => exact fun _ _ order _ => h.placeAnswerNow order
  case placeNotice =>
    exact fun _ _ _ _ => h.same (by simp) (by simp) (by simp [State.placeNoticeNow, State.place, LinkUnit.place])
  -- what remains leaves the bays and the answers alone, and the link in its state
  all_goals
    intros
    exact h.same (by simp) (by simp) (by simp [LinkUnit.countBad, LinkUnit.activity, LinkUnit.sendAck,
      LinkUnit.replayAgain, LinkUnit.sendIdle, LinkUnit.frameEnd])

end

/-- Settles O57: the laws of the bays and of the requests are kept together. -/
theorem requestLawIsKept : Obligations.RequestLawIsKept := fun _ _ bays law e =>
  (step_of_exec (P := fun s => BaysLaw NothingDue s ∧ RequestLaw s)
    (fun _ _ ⟨bays, law⟩ => ⟨bays.congr rfl rfl, law.same rfl rfl id⟩)
    (fun i s t ⟨bays, law⟩ e => ⟨exec_baysLaw i s t bays e, exec_requestLaw i s t bays law e⟩)
    ⟨bayLaw_iff.1 bays, law⟩ e).2

end Sys2Proof.Machine

/-! PROOF. The effective parameters of a request, the size of its next cycle, and the grant of the bus (R52 to R54,
R57). -/

namespace Sys2Proof.Machine

/-! ## Effective parameters -/

/-- A request runs at width 16 where its space, the module and the window all allow it (R52). -/
theorem deriveWidth_eq_w16 {m : ProfileSummary} {p : Snapshot} :
    deriveWidth (some m) p = .w16 ↔ p.space ≠ .profile ∧ m.widthCapability = .w16 ∧ p.width = .w16 := by
  unfold deriveWidth
  cases space : p.space with
  | profile => simp
  | bulk | port => cases capability : m.widthCapability <;> simp [capability]

/-- A cycle of 16 bits takes an aligned pair of bytes (R53, R54). -/
theorem nextIsWide_iff {width : Width} {address remaining : Nat} :
    nextIsWide width address remaining = true ↔ width = .w16 ∧ address % 2 = 0 ∧ 2 ≤ remaining := by
  simp [nextIsWide, and_assoc]

/-- Settles O22, by the cases of the space and the capability for the width. -/
theorem effectiveParametersLimitCycles : Obligations.EffectiveParametersLimitCycles := fun _ _ _ _ =>
  ⟨deriveWidth_eq_w16, rfl, nextIsWide_iff⟩

/-! ## The grant of the bus -/

theorem mem_arbiterOrder (pointer b : BayId) : b ∈ arbiterOrder pointer := by
  cases pointer <;> cases b <;> decide

theorem State.awaitsBus_iff {s : State} {b : BayId} :
    s.awaitsBus b = true ↔ (s.bay b).engine.state = .awaitingBus := by
  simp [State.awaitsBus]

/-- A free bus goes to the first bay that waits, in the arbiter's order (R57). -/
theorem State.grantee_eq_some {s : State} {b : BayId} {before after : List BayId} (free : s.bus.driven = none)
    (order : arbiterOrder s.bus.pointer = before ++ b :: after)
    (passed : ∀ x ∈ before, (s.bay x).engine.state ≠ .awaitingBus)
    (waits : (s.bay b).engine.state = .awaitingBus) : s.grantee = some b := by
  unfold State.grantee
  rw [free]
  refine List.find?_eq_some_iff_append.2 ⟨State.awaitsBus_iff.2 waits, before, after, order, fun x mem => ?_⟩
  simpa [State.awaitsBus] using passed x mem

/-- Nobody is granted a bus that is driven, or that nobody waits for (R57). -/
theorem State.grantee_eq_none {s : State}
    (h : s.bus.driven ≠ none ∨ ∀ b, (s.bay b).engine.state ≠ .awaitingBus) : s.grantee = none := by
  unfold State.grantee
  rcases driven : s.bus.driven with _ | d
  · have none : ∀ b, (s.bay b).engine.state ≠ .awaitingBus := h.resolve_left (fun k => k driven)
    exact List.find?_eq_none.2 (fun b _ waits => none b (State.awaitsBus_iff.1 waits))
  · rfl

theorem exec_busGrant {s : State} {b : BayId} (h : s.grantee = some b) : exec .busGrant s = .next (s.grantBus b) := by
  simp [exec, execBusGrant, h]

theorem exec_busGrant_none {s : State} (h : s.grantee = none) : exec .busGrant s = .next s := by
  simp [exec, execBusGrant, h]

/-- The grant starts the waiting cycle and drives its lines (R56, R57, R60, R62). -/
theorem State.grantBus_eq {s : State} {b : BayId} {c : Cycle} (cycle : (s.bay b).engine.cycle = some c) :
    s.grantBus b =
      (s.setBay b
        { s.bay b with
          engine := { (s.bay b).engine with
            state := .inCycle,
            cycle := some (c.start (s.bay b).life.policy.accessTimer (s.bay b).engine.waitClass) } }).setBus
        { driven := some ((s.bay b).busCycle b c), pointer := b.next } := by
  simp only [State.grantBus, cycle]
  rfl

/-- Settles O23, from whom the arbiter chooses and what a grant does. -/
theorem busIsGrantedInTurn : Obligations.BusIsGrantedInTurn := by
  refine fun s => ⟨fun b before after c free order passed waits cycle => ?_, fun h => ?_⟩
  · rw [exec_busGrant (State.grantee_eq_some free order passed waits), State.grantBus_eq cycle]
    rfl
  · exact exec_busGrant_none (State.grantee_eq_none h)

end Sys2Proof.Machine

/-! PROOF. The ends of the cycles of a request, and the end of the request (R54, R55, R60 to R66, R72). -/

namespace Sys2Proof.Machine

/-! ## A cycle under way -/

theorem Engine.running_of {e : Engine} {c : Cycle} {r : CycleRun} (state : e.state = .inCycle)
    (cycle : e.cycle = some c) (run : c.run = some r) : e.running = some (c, r) := by
  simp [Engine.running, state, cycle, run]

/-- The minimum length passes under WAIT (R60). -/
theorem exec_cycleMinLengthExpiry_wait {s : State} {b : BayId} {c : Cycle} {r : CycleRun} (error : Bool)
    (lanes : BitVec 16) (running : (s.bay b).engine.running = some (c, r)) (early : r.minElapsed = false) :
    exec (.cycleMinLengthExpiry b true error lanes) s = .next (s.updEngine b (fun e => e.held c r)) := by
  simp [exec, execCycleMinLengthExpiry, running, early]

/-- The access timer of a cycle expires (R63). -/
theorem exec_accessTimerExpiry {s : State} {b : BayId} {x : Cycle × CycleRun} (before : BeforeReport)
    (running : (s.bay b).engine.running = some x) :
    exec (.accessTimerExpiry b before) s = .next (s.timeoutCycle b before) := by
  simp [exec, execAccessTimerExpiry, running]

/-- The bus without a cycle, the arbiter's pointer as it was (R56). -/
def State.busFreed (s : State) : State := s.setBus { s.bus with driven := none }

theorem State.releaseBus_eq_busFreed {s : State} {b : BayId} {d : BusCycle} (driven : s.bus.driven = some d)
    (own : d.bay = b) : s.releaseBus b = s.busFreed :=
  State.releaseBus_own driven own

theorem State.releaseBus_of_free {s : State} {b : BayId} (free : s.bus.driven = none) : s.releaseBus b = s := by
  simp [State.releaseBus, free]

@[simp] theorem State.busFreed_bus (s : State) : s.busFreed.bus = { s.bus with driven := none } := rfl

@[simp] theorem State.busFreed_bay (s : State) (c : BayId) : s.busFreed.bay c = s.bay c := rfl

@[simp] theorem State.busFreed_frame (s : State) :
    s.busFreed.link = s.link ∧ s.busFreed.ledger = s.ledger ∧ s.busFreed.starvation = s.starvation ∧
    s.busFreed.windows = s.windows ∧ s.busFreed.answerOrder = s.answerOrder ∧ s.busFreed.notice = s.notice ∧
    s.busFreed.mgmt = s.mgmt ∧ s.busFreed.straps = s.straps ∧ s.busFreed.pending = s.pending :=
  ⟨rfl, rfl, rfl, rfl, rfl, rfl, rfl, rfl, rfl⟩

/-! ## The normal end of a cycle of a request -/

@[simp] theorem Entry.advanced_bytesDone (e : Entry) (n : Nat) (read : List Byte) :
    (e.advanced n read).bytesDone = e.bytesDone + n := by
  cases e <;> rfl

@[simp] theorem Entry.advanced_isWrite (e : Entry) (n : Nat) (read : List Byte) :
    (e.advanced n read).isWrite = e.isWrite := by
  cases e <;> rfl

section
variable {s : State} {b : BayId} {head : Entry} {rest : List Entry} (c : Cycle) (lanes : BitVec 16)

/-- Under stop-after-cycle the request ends with its cycle (R72). -/
theorem State.requestCycleDone_stop (list : (s.bay b).list = head :: rest)
    (stop : (s.bay b).engine.stopAfterCycle = true) :
    s.requestCycleDone b c lanes =
      (s.setList b (head.advanced c.bytes (c.readBytes lanes) :: rest)).endRequest b .quiesced := by
  simp [State.requestCycleDone, list, stop]

/-- The last cycle ends the request (R60, R65). -/
theorem State.requestCycleDone_last (list : (s.bay b).list = head :: rest)
    (goesOn : (s.bay b).engine.stopAfterCycle = false) (last : head.length ≤ head.bytesDone + c.bytes) :
    s.requestCycleDone b c lanes =
      (s.setList b (head.advanced c.bytes (c.readBytes lanes) :: rest)).endRequest b .ok := by
  simp [State.requestCycleDone, list, goesOn, last]

/-- Any other cycle makes the next one ready (R55). -/
theorem State.requestCycleDone_more (list : (s.bay b).list = head :: rest)
    (goesOn : (s.bay b).engine.stopAfterCycle = false) (more : head.bytesDone + c.bytes < head.length) :
    s.requestCycleDone b c lanes =
      (s.setList b (head.advanced c.bytes (c.readBytes lanes) :: rest)).updEngine b
        (fun e => e.again (e.nextCycle (head.advanced c.bytes (c.readBytes lanes)))) := by
  simp [State.requestCycleDone, list, goesOn, Nat.not_le.2 more]

end

/-! ## The cycle of a served request -/

section
variable {s : State} {b : BayId} {c : Cycle} {r : CycleRun} {head : Entry} {rest : List Entry}

theorem State.Serves.running (h : s.Serves b c r head rest) : (s.bay b).engine.running = some (c, r) := by
  obtain ⟨state, cycle, run, _⟩ := h
  exact Engine.running_of state cycle run

theorem State.Serves.work (h : s.Serves b c r head rest) : (s.bay b).engine.work = .request := by
  obtain ⟨_, _, _, work, _⟩ := h
  exact work

theorem State.Serves.list (h : s.Serves b c r head rest) : (s.bay b).list = head :: rest := by
  obtain ⟨_, _, _, _, list, _⟩ := h
  exact list

theorem State.Serves.releaseBus (h : s.Serves b c r head rest) : s.releaseBus b = s.busFreed := by
  obtain ⟨_, _, _, _, _, d, driven, own⟩ := h
  exact State.releaseBus_eq_busFreed driven own

/-- A bay with a request under way is in service, and what stands behind the head waits (R37, R51). -/
theorem State.Serves.lawful (law : BayListLaw s) (h : s.Serves b c r head rest) :
    (s.bay b).life.state.served = true ∧ ∀ x ∈ rest, x.isQueued = true ∧ x.snap.isSome = true := by
  obtain ⟨engine, _, entries⟩ := law b
  simp only [Bay.EngineLawful, h.work] at engine
  obtain ⟨_, served, head', rest', list, _, queued⟩ := engine
  obtain ⟨rfl, rfl⟩ := List.cons.inj (h.list.symm.trans list)
  refine ⟨served, fun x mem => ⟨queued x mem, ?_⟩⟩
  obtain ⟨⟨p, snap, _⟩, _⟩ := entries x (by rw [list]; exact List.mem_cons_of_mem _ mem)
  exact snap ▸ rfl

/-- An ERROR end of the cycle (R61, R72). -/
theorem State.Serves.endCycle_error (h : s.Serves b c r head rest) (lanes : BitVec 16) :
    s.endCycle b c true lanes =
      s.busFreed.endRequest b (if (s.bay b).engine.stopAfterCycle then .quiesced else .moduleError) := by
  simp [State.endCycle, h.releaseBus, h.work]

/-- A normal end of the cycle (R60). -/
theorem State.Serves.endCycle_normal (h : s.Serves b c r head rest) (lanes : BitVec 16) :
    s.endCycle b c false lanes = s.busFreed.requestCycleDone b c lanes := by
  simp [State.endCycle, h.releaseBus, h.work]

/-- The end of the cycle by its access timer (R63, R72). -/
theorem State.Serves.timeoutCycle (h : s.Serves b c r head rest) (before : BeforeReport) :
    s.timeoutCycle b before =
      if (s.bay b).engine.stopAfterCycle then s.busFreed.endRequest b .quiesced
      else s.busFreed.timeoutRequest b before := by
  simp [State.timeoutCycle, h.releaseBus, h.work]

/-- Settles O24, by the two forms of a cycle that does not end its request. -/
theorem cyclesFollowOneAnother : Obligations.CyclesFollowOneAnother := by
  intro s b c r head rest lanes serves
  refine ⟨fun error early => ?_, fun i width p ends goesOn effective snap more => ?_⟩
  · rw [exec_cycleMinLengthExpiry_wait error lanes serves.running early]
    rfl
  · rw [exec_endsCycle serves.running ends, serves.endCycle_normal,
      State.requestCycleDone_more (s := s.busFreed) c lanes serves.list goesOn more]
    simp [State.updEngine, State.setList, Engine.again, Engine.nextCycle, effective, snap, Entry.nextCycle,
      State.busFreed, Cycle.readBytes]

/-! ## The end of a served request -/

/-- `NextHeadServed` speaks of the first state's controller and engine alone. -/
theorem NextHeadServed.congr {u t : State} {streak : Nat} (k : NextHeadServed u t b streak rest)
    (life : (u.bay b).life = (s.bay b).life) (engine : (u.bay b).engine = (s.bay b).engine) :
    NextHeadServed s t b streak rest := by
  unfold NextHeadServed at k ⊢
  rwa [life, engine] at k

/-- Once the cycle has left the bus the request ends, with the head as the cycle has left it (R51, R65, R66). -/
theorem State.Serves.endRequest (law : BayListLaw s) (h : s.Serves b c r head rest) (st : AnswerStatus)
    (ended : Entry) :
    RequestEnded s ((s.busFreed.setList b (ended :: rest)).endRequest b st) b st
      (streakAfter (s.bay b).engine.timeoutStreak st) ended rest := by
  obtain ⟨served, queued⟩ := h.lawful law
  have bay : (s.busFreed.setList b (ended :: rest)).bay b = { s.bay b with list := ended :: rest } := by simp
  obtain ⟨entry, next, life, lines, bus, others⟩ := State.endRequest_spec (s := s.busFreed.setList b (ended :: rest))
    (b := b) st (by rw [bay]) queued (by rw [bay]; exact served)
  rw [bay] at next life lines
  refine ⟨entry.congr rfl rfl rfl rfl rfl rfl rfl, next.congr (by rw [bay]) (by rw [bay]), life, lines, bus,
    fun x ne => ?_, ?_⟩
  · rw [others x ne, State.setList_bay, if_neg (Ne.symm ne), State.busFreed_bay]
  · simp [State.endRequest, State.finishRequest]

/-- The same where the cycle has brought the head nothing. -/
theorem State.Serves.endRequest_unmoved (law : BayListLaw s) (h : s.Serves b c r head rest) (st : AnswerStatus) :
    RequestEnded s (s.busFreed.endRequest b st) b st (streakAfter (s.bay b).engine.timeoutStreak st) head rest := by
  have same : s.busFreed.setList b (head :: rest) = s.busFreed :=
    State.setBay_self (by rw [← h.list]; rfl)
  exact same ▸ h.endRequest law st head

end

/-- Settles O25: the last cycle's normal end counts its bytes, frees the bus and ends the request. -/
theorem lastCycleEndsRequestOk : Obligations.LastCycleEndsRequestOk := by
  intro s b c r head rest lanes i law serves ends goesOn last
  refine ⟨_, exec_endsCycle serves.running ends, ?_⟩
  rw [serves.endCycle_normal, State.requestCycleDone_last (s := s.busFreed) c lanes serves.list goesOn last]
  exact serves.endRequest law .ok _

/-- Settles O26: an ERROR end leaves the head as it is. -/
theorem errorEndsRequest : Obligations.ErrorEndsRequest := by
  intro s b c r head rest lanes i law serves ends goesOn
  refine ⟨_, exec_endsCycle serves.running ends, ?_⟩
  rw [serves.endCycle_error, goesOn]
  exact serves.endRequest_unmoved law .moduleError

/-- Settles O27: below a streak of 3 no report follows the end of the request. -/
theorem accessTimerEndsRequest : Obligations.AccessTimerEndsRequest := by
  intro s b c r head rest before law serves goesOn streak
  refine ⟨_, exec_accessTimerExpiry before serves.running, ?_⟩
  have next : streakAfter (s.bay b).engine.timeoutStreak .bayTimeout = (s.bay b).engine.timeoutStreak + 1 :=
    if_pos (by omega)
  have unreported : s.busFreed.timeoutRequest b before = s.busFreed.endRequest b .bayTimeout :=
    if_neg (by rw [State.busFreed_bay]; omega)
  rw [serves.timeoutCycle, goesOn, if_neg Bool.false_ne_true, unreported, ← next]
  exact serves.endRequest_unmoved law .bayTimeout

/-- Settles O29, by the three ends of a cycle. -/
theorem stopAfterCycleEndsQuiesced : Obligations.StopAfterCycleEndsQuiesced := by
  intro s b c r head ended rest lanes i law serves stop ends
  rcases ends with ⟨ends, rfl⟩ | ⟨ends, rfl⟩ | ⟨before, rfl, rfl⟩
  case inl =>
    refine ⟨_, exec_endsCycle serves.running ends, ?_⟩
    rw [serves.endCycle_normal, State.requestCycleDone_stop (s := s.busFreed) c lanes serves.list stop]
    exact serves.endRequest law .quiesced _
  case inr.inl =>
    refine ⟨_, exec_endsCycle serves.running ends, ?_⟩
    rw [serves.endCycle_error, stop]
    exact serves.endRequest_unmoved law .quiesced
  case inr.inr =>
    refine ⟨_, exec_accessTimerExpiry before serves.running, ?_⟩
    rw [serves.timeoutCycle, if_pos stop]
    exact serves.endRequest_unmoved law .quiesced

end Sys2Proof.Machine

/-! PROOF. The fourth request in a row to time out, and the UNRESPONSIVE report (R66, R67, R91, R104, R112). -/

namespace Sys2Proof.Machine

/-! ## The report, and what is taken ahead of it -/

theorem BayState.served_iff {x : BayState} : x.served = true ↔ x ∈ [BayState.ready, .quiescing] := by
  cases x <;> decide

theorem exec_commandBefore {b : BayId} {before : BeforeReport} {i : Instr} (h : commandBefore b before = some i)
    (u : State) : exec i u = .next (u.takeBefore b before) := by
  cases before <;> cases h <;> rfl

theorem State.takeBefore_of_none {b : BayId} {before : BeforeReport} (h : commandBefore b before = none) (u : State) :
    u.takeBefore b before = u := by
  cases before with
  | nothing => rfl
  | quiesceCompletion | removal | pgoodLoss | quiesce => cases h

theorem State.reportUnresponsive_served {s : State} {b : BayId} (served : (s.bay b).life.state.served = true) :
    s.reportUnresponsive b = s.enterFaulted b .unresponsive :=
  if_pos served

theorem State.reportUnresponsive_unserved {s : State} {b : BayId} (unserved : ¬ (s.bay b).life.state.served = true) :
    s.reportUnresponsive b = s :=
  if_neg unserved

/-- The completion of a quiesce has no effect on a bay that is not QUIESCING, or whose list is not empty (R112). -/
theorem State.takeBefore_without_effect {u : State} {b : BayId} {before : BeforeReport}
    (order : before = .nothing ∨ before = .quiesceCompletion)
    (h : ¬ (before = .quiesceCompletion ∧ (u.bay b).life.state = .quiescing ∧ (u.bay b).list = [])) :
    u.takeBefore b before = u := by
  rcases order with rfl | rfl
  · rfl
  · exact if_neg (fun c => h ⟨rfl, c⟩)

/-! ## Credits and answers of two purges, one after the other -/

/-- The credits of two purges add up. -/
theorem PurgeCredits.append {s u t : State} {l l' : List Entry} (h : PurgeCredits s u l) (link : u.link = s.link)
    (k : PurgeCredits u t l') : PurgeCredits s t (l ++ l') := by
  obtain ⟨down, up⟩ := h
  obtain ⟨down', up'⟩ := k
  rw [link] at down' up'
  refine ⟨fun h => (down' h).trans (down h), fun h => ?_⟩
  obtain ⟨store, request, mgmt, timer, expired, seed⟩ := up h
  obtain ⟨store', request', mgmt', timer', expired', seed'⟩ := up' h
  refine ⟨?_, ?_, mgmt'.trans mgmt, ?_, expired'.trans expired, seed'.trans seed⟩
  · rw [store', store, List.countP_append, Nat.add_assoc]
  · rw [request', request, List.countP_append, Nat.add_assoc]
  · have total : u.ledger.pendingTotal =
        s.ledger.pendingTotal + (l.countP Entry.isStore + l.countP Entry.isOrphan) := by
      simp only [Ledger.pendingTotal, store, request, mgmt]
      omega
    rw [timer', timer, total, List.countP_append, List.countP_append, Bool.eq_iff_iff]
    simp only [Bool.or_eq_true, Bool.and_eq_true, decide_eq_true_eq, or_assoc]
    exact or_congr_right (by omega)

/-- What a request that ends without OK gives back and answers is what a purge of its entry alone does (R41, R65). -/
theorem State.finishRequest_purge {s : State} {b : BayId} {e : Entry} {rest : List Entry} {st : AnswerStatus}
    (notOk : st ≠ .ok) (list : (s.bay b).list = e :: rest) :
    PurgeCredits s (s.finishRequest b st) [e] ∧
    (s.finishRequest b st).answerOrder = s.answerOrder ++ purgeAnswers st [e] ∧
    (s.finishRequest b st).notice = s.notice.purgeRaises b st [e] := by
  obtain ⟨credits, answers, notice⟩ := State.settleEntries_spec b st notOk [e] s
  have settled : s.finishRequest b st = ((s.settleEntries b st [e]).setList b rest).updEngine b (fun x =>
      { x.cleared with timeoutStreak := streakAfter x.timeoutStreak st }) := by
    simp only [State.finishRequest, State.endHead, list]
    rfl
  rw [settled]
  exact ⟨credits.congr rfl rfl rfl, answers, notice⟩

/-! ## After the fourth end -/

/-- The bridge between the fourth timed-out request's end and the report (R66, R67). -/
structure TimedOut (s u : State) (b : BayId) (head : Entry) (rest : List Entry) : Prop where
  entry : EntryEnded s u b .bayTimeout head
  bay : u.bay b =
    { s.bay b with list := rest, engine := { (s.bay b).engine.cleared with timeoutStreak := 4 } }
  bus : u.bus = { s.bus with driven := none }
  others : ∀ x, x ≠ b → u.bay x = s.bay x
  credits : PurgeCredits s u [head]
  answers : u.answerOrder = s.answerOrder ++ purgeAnswers .bayTimeout [head]
  notice : u.notice = s.notice.purgeRaises b .bayTimeout [head]
  frame : u.link = s.link ∧ u.windows = s.windows ∧ u.mgmt = s.mgmt ∧ u.starvation = s.starvation ∧
    u.straps = s.straps

/-- What the report leaves, whether the quiesce was completed ahead of it or the bay is faulted (R66, R67). -/
structure Reported (s t : State) (b : BayId) (head : Entry) (rest : List Entry) : Prop where
  list : (t.bay b).list = []
  engine : (t.bay b).engine.WithoutWork
  streak : (t.bay b).engine.timeoutStreak = 4
  lines : (s.bay b).SameLines (t.bay b)
  credits : PurgeCredits s t (head :: rest)
  bus : t.bus = { s.bus with driven := none }
  others : ∀ x, x ≠ b → t.bay x = s.bay x
  frame : t.link = s.link ∧ t.windows = s.windows ∧ t.mgmt = s.mgmt ∧ t.starvation = s.starvation ∧
    t.straps = s.straps

section
variable {s u : State} {b : BayId} {c : Cycle} {r : CycleRun} {head : Entry} {rest : List Entry}

/-- The fourth end in a row, on a bus that the cycle has left (R63, R65, R66). -/
theorem State.Serves.timedOut (h : s.Serves b c r head rest) (streak : (s.bay b).engine.timeoutStreak = 3) :
    TimedOut s (s.busFreed.finishRequest b .bayTimeout) b head rest := by
  have list : (s.busFreed.bay b).list = head :: rest := h.list
  obtain ⟨entry, bay, bus, others⟩ := State.finishRequest_spec .bayTimeout list
  obtain ⟨credits, answers, notice⟩ := State.finishRequest_purge (by decide : AnswerStatus.bayTimeout ≠ .ok) list
  refine ⟨entry.congr rfl rfl rfl rfl rfl rfl rfl, ?_, bus, others, credits.congr rfl rfl rfl, answers, notice, ?_⟩
  · rw [bay, State.busFreed_bay, streak]
    rfl
  · simp [State.finishRequest]

/-- A bay that is still in service is faulted by the report, with its purge (R67, R91, R92). -/
theorem TimedOut.faulted (h : TimedOut s u b head rest) :
    Reported s (u.enterFaulted b .unresponsive) b head rest ∧
    ((u.enterFaulted b .unresponsive).bay b).life = (s.bay b).life.faulted .unresponsive ∧
    (u.enterFaulted b .unresponsive).answerOrder =
      s.answerOrder ++ purgeAnswers .bayTimeout [head] ++ purgeAnswers .bayFault rest ∧
    (u.enterFaulted b .unresponsive).notice =
      ((s.notice.purgeRaises b .bayTimeout [head]).purgeRaises b .bayFault rest).raise (.bay b .fault)
        (some .unresponsive) := by
  obtain ⟨link, windows, mgmt, starvation, straps⟩ := h.frame
  obtain ⟨⟨life, list, engine, streak, presA, presB, _, credits, answers, notice, others, link', windows', mgmt',
    starvation', straps'⟩, pgood⟩ := u.enterFaulted_spec b .unresponsive
  have free : u.bus.driven = none := by rw [h.bus]
  simp only [h.bay] at life streak presA presB credits answers notice pgood
  refine ⟨⟨list, engine, streak, ⟨presA, presB, pgood⟩, h.credits.append link credits,
    by rw [State.enterFaulted_bus, State.releaseBus_of_free free, h.bus],
    fun x ne => (others x ne).trans (h.others x ne), link'.trans link, windows'.trans windows, mgmt'.trans mgmt,
    starvation'.trans starvation, straps'.trans straps⟩, life, ?_, ?_⟩
  · rw [answers, h.answers]
  · rw [notice, h.notice]
    rfl

/-- A quiesce whose last request has timed out is completed ahead of the report (R67, R112). -/
theorem TimedOut.quiesced (h : TimedOut s u b head []) :
    Reported s (u.completeQuiesce b) b head [] ∧
    ((u.completeQuiesce b).bay b).life = (s.bay b).life.quiescedWith (s.bay b).life.mrdySeen ∧
    (u.completeQuiesce b).answerOrder = s.answerOrder ++ purgeAnswers .bayTimeout [head] ∧
    (u.completeQuiesce b).notice =
      (s.notice.purgeRaises b .bayTimeout [head]).raise (.bay b .quiesced) none := by
  have bay : (u.completeQuiesce b).bay b =
      { s.bay b with
        list := [], engine := { (s.bay b).engine.cleared with timeoutStreak := 4 },
        life := (s.bay b).life.quiescedWith (s.bay b).life.mrdySeen } := by
    rw [State.completeQuiesce_bay, if_pos rfl, h.bay]
    rfl
  rw [bay]
  refine ⟨⟨by rw [bay], by rw [bay]; exact ⟨rfl, rfl, rfl, rfl, rfl, rfl⟩, by rw [bay],
    by rw [bay]; exact ⟨rfl, rfl, rfl⟩, h.credits.congr rfl (by simp) rfl, ?_, fun x ne => ?_, ?_⟩, rfl, ?_, ?_⟩
  · simpa using h.bus
  · rw [State.completeQuiesce_bay, if_neg (Ne.symm ne), h.others x ne]
  · simpa using h.frame
  · simpa using h.answers
  · simp [State.completeQuiesce, State.raise, h.notice]

end

/-- Settles O28: the end of the request, what is taken ahead of the report, and the report, in this order. -/
theorem fourthTimeoutFaultsBay : Obligations.FourthTimeoutFaultsBay := by
  intro s b c r head rest before law serves goesOn streak
  have served := (serves.lawful law).1
  have ended := serves.timedOut streak
  have expiry : s.timeoutCycle b before =
      ((s.busFreed.finishRequest b .bayTimeout).takeBefore b before).reportUnresponsive b := by
    rw [serves.timeoutCycle, goesOn, if_neg Bool.false_ne_true]
    exact if_pos streak
  generalize s.busFreed.finishRequest b .bayTimeout = u at ended expiry
  have life : (u.bay b).life = (s.bay b).life := by rw [ended.bay]
  have list : (u.bay b).list = rest := by rw [ended.bay]
  refine ⟨u, u.takeBefore b before, (u.takeBefore b before).reportUnresponsive b,
    expiry ▸ exec_accessTimerExpiry before serves.running,
    ⟨ended.entry, ended.bay, ended.bus, ended.others, ended.frame⟩, fun h => State.takeBefore_of_none h u,
    fun i h => exec_commandBefore h u, fun inService => ?_, fun out => ?_, fun order => ?_⟩
  · rw [State.reportUnresponsive_served (BayState.served_iff.2 inService)]
    exact State.enterFaulted_spec _ b .unresponsive
  · exact State.reportUnresponsive_unserved (fun k => out (BayState.served_iff.1 k))
  · by_cases completed : before = .quiesceCompletion ∧ (s.bay b).life.state = .quiescing ∧ rest = []
    · obtain ⟨rfl, quiescing, rfl⟩ := completed
      have taken : u.takeBefore b .quiesceCompletion = u.completeQuiesce b :=
        if_pos ⟨by rw [life, quiescing], list⟩
      obtain ⟨⟨empty, engine, four, lines, credits, bus, others, link, windows, mgmt, starvation, straps⟩, quiesced⟩ :=
        ended.quiesced
      rw [taken, State.reportUnresponsive_unserved (by simp [Bay.quiesceDone, Lifecycle.quiescedNow, BayState.served])]
      exact ⟨empty, engine, four, lines, credits, bus, others, link, windows, mgmt, starvation, straps,
        fun _ _ _ => quiesced, fun other => absurd ⟨rfl, quiescing, rfl⟩ other⟩
    · have taken : u.takeBefore b before = u :=
        State.takeBefore_without_effect order (by rwa [life, list])
      obtain ⟨⟨empty, engine, four, lines, credits, bus, others, link, windows, mgmt, starvation, straps⟩, faulted⟩ :=
        ended.faulted
      rw [taken, State.reportUnresponsive_served (by rw [life]; exact served)]
      exact ⟨empty, engine, four, lines, credits, bus, others, link, windows, mgmt, starvation, straps,
        fun is quiescing empty => absurd ⟨is, quiescing, empty⟩ completed, fun _ => faulted⟩

end Sys2Proof.Machine

/-! PROOF. The profile read: its bytes, its outcome and the checks of the header (R68, R69, R86 to R89). -/

namespace Sys2Proof.Machine

/-! ## The header -/

/-- The checks of a header and what its summary holds (R87, R88). -/
theorem headerSummary_eq_some_iff {h0 h1 h2 h3 h4 h5 h6 h7 h8 h9 hA hB hC hD hE hF : Byte} {m : ProfileSummary} :
    headerSummary [h0, h1, h2, h3, h4, h5, h6, h7, h8, h9, hA, hB, hC, hD, hE, hF] = some m ↔
      (h0 = 0xB4 ∧ h1 = 0x2E ∧ h4 = 1 ∧
        byteSum [h0, h1, h2, h3, h4, h5, h6, h7, h8, h9, hA, hB, hC, hD, hE, hF] % 256 = 0) ∧
      widthOperand h5 = some m.widthCapability ∧ waitClassOperand h6 = some m.minWaitClass ∧
      m.kind = BitVec.ofNat 16 (leNat [h2, h3]) ∧ m.attentionSupported = h7.getLsbD 0 ∧
      m.serial = [h8, h9, hA, hB, hC, hD] := by
  obtain ⟨kind, capability, waitClass, attention, serial⟩ := m
  unfold headerSummary widthOf
  dsimp only
  split
  next w c isWidth isClass =>
    rw [isWidth, isClass]
    split
    next checks =>
      simp only [Option.some.injEq, ProfileSummary.mk.injEq]
      constructor
      · rintro ⟨rfl, rfl, rfl, rfl, rfl⟩
        exact ⟨checks, rfl, rfl, rfl, rfl, rfl⟩
      · rintro ⟨_, rfl, rfl, rfl, rfl, rfl⟩
        exact ⟨rfl, rfl, rfl, rfl, rfl⟩
    next fails => exact ⟨fun h => (by cases h), fun h => absurd h.1 fails⟩
  next missing => exact ⟨fun h => (by cases h), fun ⟨_, width, waits, _⟩ => (missing _ _ width waits).elim⟩

/-- A number of two bytes is kept whole in 16 bits. -/
theorem eq_ofNat_leNat_two {k : BitVec 16} {x0 x1 : Byte} :
    k = BitVec.ofNat 16 (leNat [x0, x1]) ↔ k.toNat = x0.toNat + 256 * x1.toNat := by
  rw [BitVec.toNat_eq, BitVec.toNat_ofNat, leNat_two, Nat.mod_eq_of_lt (by omega)]

/-- A width byte and the width it names (R87, R88). -/
theorem widthOperand_eq_some_iff {x : Byte} {w : Width} :
    widthOperand x = some w ↔ (x = 8 ∨ x = 16) ∧ (w = .w8 ↔ x = 8) := by
  have eight : x = 8 ↔ x.toNat = 8 := BitVec.toNat_eq
  have sixteen : x = 16 ↔ x.toNat = 16 := BitVec.toNat_eq
  rw [widthOperand_eq_some, eight, sixteen]
  cases w <;> simp <;> omega

/-- The same in numbers, byte by byte. -/
theorem headerSummary_iff (h0 h1 h2 h3 h4 h5 h6 h7 h8 h9 hA hB hC hD hE hF : Byte) (m : ProfileSummary) :
    headerSummary [h0, h1, h2, h3, h4, h5, h6, h7, h8, h9, hA, hB, hC, hD, hE, hF] = some m ↔
      h0 = 0xB4 ∧ h1 = 0x2E ∧ h4 = 1 ∧ (h5 = 8 ∨ h5 = 16) ∧ h6.toNat < 4 ∧
      (h0.toNat + h1.toNat + h2.toNat + h3.toNat + h4.toNat + h5.toNat + h6.toNat + h7.toNat + h8.toNat + h9.toNat +
        hA.toNat + hB.toNat + hC.toNat + hD.toNat + hE.toNat + hF.toNat) % 256 = 0 ∧
      m.kind.toNat = h2.toNat + 256 * h3.toNat ∧ (m.widthCapability = .w8 ↔ h5 = 8) ∧
      m.minWaitClass.val = h6.toNat ∧ m.attentionSupported = h7.getLsbD 0 ∧
      m.serial = [h8, h9, hA, hB, hC, hD] := by
  have sum : byteSum [h0, h1, h2, h3, h4, h5, h6, h7, h8, h9, hA, hB, hC, hD, hE, hF] =
      h0.toNat + h1.toNat + h2.toNat + h3.toNat + h4.toNat + h5.toNat + h6.toNat + h7.toNat + h8.toNat + h9.toNat +
        hA.toNat + hB.toNat + hC.toNat + hD.toNat + hE.toNat + hF.toNat := by
    simp [byteSum, Nat.add_assoc]
  rw [headerSummary_eq_some_iff, sum, widthOperand_eq_some_iff, waitClassOperand_eq_some, eq_ofNat_leNat_two]
  constructor
  · rintro ⟨⟨h0, h1, h4, sum⟩, ⟨width, capability⟩, waits, kind, attention, serial⟩
    exact ⟨h0, h1, h4, width, waits ▸ m.minWaitClass.isLt, sum, kind, capability, waits, attention, serial⟩
  · rintro ⟨h0, h1, h4, width, _, sum, kind, capability, waits, attention, serial⟩
    exact ⟨⟨h0, h1, h4, sum⟩, ⟨width, capability⟩, waits, kind, attention, serial⟩

/-! ## The read and its outcome -/

section
variable {s : State} {b : BayId}

/-- Before the last byte the read goes on with the next one (R68). -/
theorem State.profileByte_more (byte : Byte) (more : (s.bay b).engine.profileBytes.length < 15) :
    s.profileByte b byte = s.setBay b
      { s.bay b with
        engine := { (s.bay b).engine with
          state := .awaitingBus, cycle := some (profileCycle ((s.bay b).engine.profileBytes.length + 1)),
          profileBytes := (s.bay b).engine.profileBytes ++ [byte] } } := by
  have unfinished : ¬ 15 ≤ (s.bay b).engine.profileBytes.length := Nat.not_le.2 more
  simp [State.profileByte, State.updEngine, unfinished]

/-- A read without a header faults the bay (R69, R86). -/
theorem State.profileOutcome_none (state : (s.bay b).life.state = .profiling) :
    s.profileOutcome b none = (s.updEngine b Engine.cleared).enterFaulted b .profileBad := by
  simp [State.profileOutcome, state]

/-- The engine after the sixteenth byte of the read (R69). -/
def Engine.headerRead (e : Engine) (byte : Byte) : Engine :=
  { e.cleared with profileBytes := e.profileBytes ++ [byte] }

/-- Sixteen bytes that pass their checks make the bay READY (R69, R86, R89). -/
theorem State.profileByte_ready {byte : Byte} {m : ProfileSummary} (state : (s.bay b).life.state = .profiling)
    (last : (s.bay b).engine.profileBytes.length = 15)
    (valid : headerSummary ((s.bay b).engine.profileBytes ++ [byte]) = some m) :
    s.profileByte b byte = (s.updEngine b (fun e => e.headerRead byte)).enterReady b m := by
  simp [State.profileByte, State.profileOutcome, State.updEngine, Engine.headerRead, Engine.cleared, last, state, valid]

/-- Sixteen bytes that fail their checks fault the bay (R69, R86, R87). -/
theorem State.profileByte_bad {byte : Byte} (state : (s.bay b).life.state = .profiling)
    (last : (s.bay b).engine.profileBytes.length = 15)
    (bad : headerSummary ((s.bay b).engine.profileBytes ++ [byte]) = none) :
    s.profileByte b byte = (s.updEngine b (fun e => e.headerRead byte)).enterFaulted b .profileBad := by
  simp [State.profileByte, State.profileOutcome, State.updEngine, Engine.headerRead, Engine.cleared, last, state, bad]

/-- A fault judged from a state whose engine has just been changed, and whose bus has lost the bay's own cycle, is the
fault of the state before (R71, R92). -/
theorem BayFaulted.ofFreed {t : State} {reason : FaultReason} {d : BusCycle} {f : Engine → Engine}
    (h : BayFaulted (s.busFreed.updEngine b f) t b reason) (driven : s.bus.driven = some d) (own : d.bay = b)
    (streak : ∀ e, (f e).timeoutStreak = e.timeoutStreak) : BayFaulted s t b reason := by
  obtain ⟨life, list, engine, streak', presA, presB, ⟨pointer, free, _⟩, credits, answers, notice, others, frame⟩ := h
  have bay : (s.busFreed.updEngine b f).bay b = { s.bay b with engine := f (s.bay b).engine } := by simp
  rw [bay] at life streak' presA presB credits answers notice
  refine ⟨life, list, engine, streak'.trans (streak _), presA, presB, ⟨pointer, free, fun x other carries => ?_⟩,
    credits.congr rfl rfl rfl, answers, notice, fun c ne => (others c ne).trans ?_, frame⟩
  · rw [driven] at carries
    cases carries
    exact absurd own other
  · rw [State.updEngine_bay, if_neg (Ne.symm ne), State.busFreed_bay]

end

/-! ## The cycle of a profile read -/

section
variable {s : State} {b : BayId} {d : BusCycle}

/-- A normal end of a cycle of the read (R68). -/
theorem State.endCycle_profileByte (c : Cycle) (lanes : BitVec 16) (driven : s.bus.driven = some d) (own : d.bay = b)
    (work : (s.bay b).engine.work = .profileRead) :
    s.endCycle b c false lanes = s.busFreed.profileByte b (lanes.extractLsb' 0 8) := by
  simp [State.endCycle, State.releaseBus_eq_busFreed driven own, work]

/-- An ERROR end of a cycle of the read (R69). -/
theorem State.endCycle_profileError (c : Cycle) (lanes : BitVec 16) (driven : s.bus.driven = some d) (own : d.bay = b)
    (work : (s.bay b).engine.work = .profileRead) :
    s.endCycle b c true lanes = s.busFreed.profileOutcome b none := by
  simp [State.endCycle, State.releaseBus_eq_busFreed driven own, work]

/-- An expiry of the access timer in the read (R63, R69). -/
theorem State.timeoutCycle_profile (before : BeforeReport) (driven : s.bus.driven = some d) (own : d.bay = b)
    (work : (s.bay b).engine.work = .profileRead) :
    s.timeoutCycle b before = s.busFreed.profileOutcome b none := by
  simp [State.timeoutCycle, State.releaseBus_eq_busFreed driven own, work]

end

/-- Settles O30, by the ends of a cycle of the read and, for the checks, by the header's bytes. -/
theorem profileReadDecidesBay : Obligations.ProfileReadDecidesBay := by
  intro s b c r lanes i d inCycle cycle run work state driven own
  have running := Engine.running_of inCycle cycle run
  refine ⟨fun ends more => ?_, fun m ends last valid => ?_, ?_, headerSummary_iff⟩
  · rw [exec_endsCycle running ends, State.endCycle_profileByte c lanes driven own work,
      State.profileByte_more (s := s.busFreed) _ more]
    rfl
  · refine ⟨_, exec_endsCycle running ends, ?_⟩
    rw [State.endCycle_profileByte c lanes driven own work, State.profileByte_ready (s := s.busFreed) state last valid]
    have bay : ((s.busFreed.updEngine b (fun e => e.headerRead (lanes.extractLsb' 0 8))).enterReady b m).bay b =
        Bay.readied { s.bay b with engine := (s.bay b).engine.headerRead (lanes.extractLsb' 0 8) } m := by simp
    rw [bay]
    refine ⟨rfl, rfl, ⟨rfl, rfl, rfl, rfl, rfl, rfl⟩, rfl, ⟨rfl, rfl, rfl⟩, by simp, rfl, fun x ne => ?_, by simp⟩
    simp [Ne.symm ne]
  · rintro (⟨ends, last, bad⟩ | ends | ⟨before, rfl⟩)
    · refine ⟨_, exec_endsCycle running ends, ?_⟩
      rw [State.endCycle_profileByte c lanes driven own work, State.profileByte_bad (s := s.busFreed) state last bad]
      exact .ofFreed (State.enterFaulted_spec _ b .profileBad).1 driven own (fun _ => rfl)
    · refine ⟨_, exec_endsCycle running ends, ?_⟩
      rw [State.endCycle_profileError c lanes driven own work, State.profileOutcome_none (s := s.busFreed) state]
      exact .ofFreed (State.enterFaulted_spec _ b .profileBad).1 driven own (fun _ => rfl)
    · refine ⟨_, exec_accessTimerExpiry before running, ?_⟩
      rw [State.timeoutCycle_profile before driven own work, State.profileOutcome_none (s := s.busFreed) state]
      exact .ofFreed (State.enterFaulted_spec _ b .profileBad).1 driven own (fun _ => rfl)

end Sys2Proof.Machine

/-! PROOF. The presence contacts, and the reports of a bay (R77, R78, R90, R99, R100, R112). -/

namespace Sys2Proof.Machine

/-! ## The contacts, case by case -/

section
variable {bay : Bay}

/-- EMPTY with both contacts asserted enters SETTLING (R77). -/
theorem Bay.contactAsserted_empty (c : Contact) (empty : bay.life.state = .empty)
    (present : (bay.setContact c true).present = true) :
    bay.contactAsserted c =
      { bay.setContact c true with
        life := { (bay.setContact c true).life with state := .settling, timer := some .stablePresence } } := by
  simp [Bay.contactAsserted, Bay.detect, empty, present, BayState.filtered]

/-- A contact that returns in SETTLING, or while the other one is deasserted, moves nothing (R77, R100). -/
theorem Bay.contactAsserted_level (c : Contact)
    (h : bay.life.state = .settling ∨ (bay.setContact c true).present = false) :
    bay.contactAsserted c = bay.setContact c true := by
  rcases h with settling | absent
  · simp [Bay.contactAsserted, Bay.detect, settling, BayState.filtered]
  · simp [Bay.contactAsserted, Bay.detect, absent]

/-- From IDENTIFYING on, the return of both contacts stops the filter (R100). -/
theorem Bay.contactAsserted_filtered (c : Contact) (filtered : bay.life.state.filtered = true)
    (present : (bay.setContact c true).present = true) :
    bay.contactAsserted c =
      { bay.setContact c true with life := { (bay.setContact c true).life with filter := .idle } } := by
  have notEmpty := ((BayState.filtered_iff _).1 filtered).1
  simp [Bay.contactAsserted, Bay.detect, notEmpty, filtered, present]

/-- EMPTY stays EMPTY when a contact is deasserted (R77). -/
theorem Bay.contactDeasserted_empty (c : Contact) (empty : bay.life.state = .empty) :
    bay.contactDeasserted c = bay.setContact c false := by
  simp [Bay.contactDeasserted, empty, BayState.filtered]

/-- SETTLING returns to EMPTY (R78). -/
theorem Bay.contactDeasserted_settling (c : Contact) (settling : bay.life.state = .settling) :
    bay.contactDeasserted c =
      { bay.setContact c false with
        life := { (bay.setContact c false).life with state := .empty, timer := none } } := by
  simp [Bay.contactDeasserted, settling]

/-- From IDENTIFYING on, a deasserted contact is timed by the filter (R100). -/
theorem Bay.contactDeasserted_filtered (c : Contact) (filtered : bay.life.state.filtered = true) :
    bay.contactDeasserted c =
      { bay.setContact c false with life := { (bay.setContact c false).life with filter := .timing } } := by
  have notSettling := ((BayState.filtered_iff _).1 filtered).2
  simp [Bay.contactDeasserted, notSettling, filtered]

end

theorem exec_presenceContactAsserted (b : BayId) (c : Contact) (s : State) :
    exec (.presenceContactAsserted b c) s = .next (s.setBay b ((s.bay b).contactAsserted c)) := rfl

theorem exec_presenceContactDeasserted (b : BayId) (c : Contact) (s : State) :
    exec (.presenceContactDeasserted b c) s = .next (s.setBay b ((s.bay b).contactDeasserted c)) := rfl

/-- Settles O31: each clause is one case of what a contact does to its bay. -/
theorem contactsMovePresence : Obligations.ContactsMovePresence := by
  rintro s b c up down rfl rfl
  have filtered (notEmpty : (s.bay b).life.state ≠ .empty) (notSettling : (s.bay b).life.state ≠ .settling) :
      (s.bay b).life.state.filtered = true := (BayState.filtered_iff _).2 ⟨notEmpty, notSettling⟩
  simp only [exec_presenceContactAsserted, exec_presenceContactDeasserted]
  refine ⟨fun empty present => ?_, fun level => ?_, fun notEmpty notSettling present => ?_, fun empty => ?_,
    fun settling => ?_, fun notEmpty notSettling => ?_⟩
  · rw [Bay.contactAsserted_empty c empty present]
  · rw [Bay.contactAsserted_level c level]
  · rw [Bay.contactAsserted_filtered c (filtered notEmpty notSettling) present]
  · rw [Bay.contactDeasserted_empty c empty]
  · rw [Bay.contactDeasserted_settling c settling]
  · rw [Bay.contactDeasserted_filtered c (filtered notEmpty notSettling)]

/-! ## The reports -/

/-- A timer's expiry is looked at in the timer's own state while it runs (R74). -/
theorem Lifecycle.awaits_iff {l : Lifecycle} {state : BayState} {timer : LifecycleTimer} :
    l.awaits state timer = true ↔ l.state = state ∧ l.timer = some timer := by
  simp [Lifecycle.awaits]

/-- ATTN is looked at in READY, where the module's profile has attention (R90). -/
theorem Lifecycle.watchesAttention_iff {l : Lifecycle} :
    l.watchesAttention = true ↔ l.state = .ready ∧ ∃ m, l.summary = some m ∧ m.attentionSupported = true := by
  unfold Lifecycle.watchesAttention
  split
  next m ready summary => simp [ready, summary]
  next other => exact ⟨fun h => (by cases h), fun ⟨ready, m, summary, _⟩ => (other m ready summary).elim⟩

/-- Settles O32: each command is a test of the bay, with the report where the test succeeds. -/
theorem bayEventsAreRaised : Obligations.BayEventsAreRaised := by
  intro s b
  refine ⟨fun settling runs => ?_, fun other => ?_, fun m ready summary supported => ?_, fun other => ?_,
    fun quiescing empty => ?_, fun other => ?_⟩
  · exact congrArg _ (if_pos (Lifecycle.awaits_iff.2 ⟨settling, runs⟩))
  · refine congrArg _ (if_neg (fun awaits => ?_))
    obtain ⟨settling, runs⟩ := Lifecycle.awaits_iff.1 awaits
    exact other.elim (· settling) (· runs)
  · exact congrArg _ (if_pos (Lifecycle.watchesAttention_iff.2 ⟨ready, m, summary, supported⟩))
  · refine congrArg _ (if_neg (fun watches => ?_))
    obtain ⟨ready, m, summary, supported⟩ := Lifecycle.watchesAttention_iff.1 watches
    exact other.elim (· ready) (fun unsupported =>
      absurd ((unsupported m summary).symm.trans supported) Bool.false_ne_true)
  · exact congrArg _ (if_pos ⟨quiescing, empty⟩)
  · exact congrArg _ (if_neg (fun ⟨quiescing, empty⟩ => other.elim (· quiescing) (· empty)))

end Sys2Proof.Machine

/-! PROOF. Identification, power-up, and the events that fault a bay (R68, R79, R80, R82 to R85, R91, R92). -/

namespace Sys2Proof.Machine

/-! ## Updates of one bay -/

/-- A change of the controller in a bay that has just been replaced. -/
theorem State.updLife_setBay (s : State) (b : BayId) (x : Bay) (f : Lifecycle → Lifecycle) :
    (s.setBay b x).updLife b f = s.setBay b { x with life := f x.life } := by
  simp [State.updLife]

/-- A fault is judged alike from two bays that differ in the items it sets, and in PGOOD, which it does not name
(R92). -/
theorem BayFaulted.ofSetBay {s t : State} {b : BayId} {x y : Bay} {reason : FaultReason}
    (h : BayFaulted (s.setBay b x) t b reason) (life : y.life.faulted reason = x.life.faulted reason)
    (engine : y.engine = x.engine) (list : y.list = x.list) (presA : y.presA = x.presA) (presB : y.presB = x.presB) :
    BayFaulted (s.setBay b y) t b reason := by
  have here (z : Bay) : (s.setBay b z).bay b = z := by simp
  obtain ⟨life', list', engine', streak, presA', presB', bus, credits, answers, notice, others, frame⟩ := h
  rw [here] at life' streak presA' presB' credits answers notice
  rw [← life] at life'
  rw [← engine] at streak
  rw [← presA] at presA'
  rw [← presB] at presB'
  rw [← list] at credits answers notice
  unfold BayFaulted
  rw [here]
  refine ⟨life', list', engine', streak, presA', presB', bus, credits.congr rfl rfl rfl, answers, notice,
    fun c ne => (others c ne).trans ?_, frame⟩
  simp [Ne.symm ne]

/-! ## Identification -/

section
variable {bay : Bay}

/-- POWERING entered while PGOOD is deasserted waits for it (R82). -/
theorem Bay.enterPowering_awaiting (supply : Supply) (low : bay.pgood = false) :
    bay.enterPowering supply =
      { bay with
        life := { bay.life with
          state := .powering, supply := supply, phase := some .awaitingPgood, timer := some .powerGoodWait,
          lamp := .off, mrstAsserted := true } } := by
  simp [Bay.enterPowering, low]

/-- POWERING entered with PGOOD already asserted settles at once (R82). -/
theorem Bay.enterPowering_settling (supply : Supply) (high : bay.pgood = true) :
    bay.enterPowering supply =
      { bay with
        life := { bay.life with
          state := .powering, supply := supply, phase := some .settlingPower, timer := some .powerSettle,
          lamp := .off, mrstAsserted := true } } := by
  simp [Bay.enterPowering, Lifecycle.pgoodArrived, high]

end

section
variable {s : State} {b : BayId} {m : ModuleClass}

theorem State.identify_unrecognized :
    s.identify b .unrecognized =
      (s.setBay b { s.bay b with
        life := { (s.bay b).life with moduleClass := some .unrecognized, timer := none } }).enterFaulted b
          .unrecognized := rfl

/-- A recognized module waits for POWER_ON without auto_power (R80). -/
theorem State.identify_manual (recognized : m ≠ .unrecognized) (manual : (s.bay b).life.policy.autoPower = false) :
    s.identify b m = s.setBay b { s.bay b with
      life := { (s.bay b).life with moduleClass := some m, timer := none, state := .unpowered } } := by
  simp [State.identify, State.updLife, recognized, manual]

/-- A recognized module is powered at the class that auto_power chooses (R80). -/
theorem State.identify_auto (recognized : m ≠ .unrecognized) (auto : (s.bay b).life.policy.autoPower = true) :
    s.identify b m = s.setBay b (Bay.enterPowering
      { s.bay b with life := { (s.bay b).life with moduleClass := some m, timer := none } } m.autoSupply) := by
  simp [State.identify, State.updLife, recognized, auto]

end

theorem exec_senseSettleExpiry {s : State} {b : BayId} (sense1 sense0 : Bool)
    (identifying : (s.bay b).life.state = .identifying) (runs : (s.bay b).life.timer = some .senseSettle) :
    exec (.senseSettleExpiry b sense1 sense0) s = .next (s.identify b (senseClass sense1 sense0)) :=
  congrArg _ (if_pos (Lifecycle.awaits_iff.2 ⟨identifying, runs⟩))

/-- The sense pairs of the recognized classes, with the class that auto_power chooses (R79, R80). -/
theorem senseClass_recognized {sense1 sense0 : Bool} {m : ModuleClass} {supply : Supply}
    (h : (sense1 = false ∧ sense0 = false ∧ m = .both ∧ supply = .l) ∨
      (sense1 = false ∧ sense0 = true ∧ m = .lOnly ∧ supply = .l) ∨
      (sense1 = true ∧ sense0 = false ∧ m = .hOnly ∧ supply = .h)) :
    senseClass sense1 sense0 = m ∧ m ≠ .unrecognized ∧ m.autoSupply = supply := by
  rcases h with ⟨rfl, rfl, rfl, rfl⟩ | ⟨rfl, rfl, rfl, rfl⟩ | ⟨rfl, rfl, rfl, rfl⟩ <;> decide

/-- Settles O33: the class of the sense pair, then the fault or the policy. -/
theorem senseLinesIdentifyModule : Obligations.SenseLinesIdentifyModule := by
  intro s b sense1 sense0 identifying runs
  rw [exec_senseSettleExpiry sense1 sense0 identifying runs]
  refine ⟨?_, fun m supply pair => ?_⟩
  · rintro rfl rfl
    refine ⟨_, rfl, ?_⟩
    rw [senseClass, State.identify_unrecognized]
    exact (State.enterFaulted_spec _ b .unrecognized).1.ofSetBay rfl rfl rfl rfl rfl
  · obtain ⟨rfl, recognized, rfl⟩ := senseClass_recognized pair
    refine ⟨fun manual => ?_, fun auto low => ?_, fun auto high => ?_⟩
    · rw [State.identify_manual recognized manual]
    · rw [State.identify_auto recognized auto, Bay.enterPowering_awaiting]
      exact low
    · rw [State.identify_auto recognized auto, Bay.enterPowering_settling]
      exact high

/-! ## Power-up -/

theorem Lifecycle.awaitsPgood_iff {l : Lifecycle} :
    l.awaitsPgood = true ↔ l.state = .powering ∧ l.phase = some .awaitingPgood := by
  simp [Lifecycle.awaitsPgood]

/-- MRDY arrives: the ready timer stops, and the engine takes the profile read (R68, R85). -/
theorem State.takeMrdy_eq (s : State) (b : BayId) :
    s.takeMrdy b = s.setBay b
      (Bay.profiled { s.bay b with life := { (s.bay b).life with mrdySeen := true, timer := none } }) := by
  simp [State.takeMrdy, State.startProfileRead, State.updLife, State.updEngine, Bay.profiled]

theorem exec_moduleResetExpiry {s : State} {b : BayId} (mrdy : Bool) (resetting : (s.bay b).life.state = .resetting)
    (runs : (s.bay b).life.timer = some .moduleReset) :
    exec (.moduleResetExpiry b mrdy) s = .next
      (if mrdy then (s.updLife b Lifecycle.released).takeMrdy b else s.updLife b Lifecycle.released) :=
  congrArg _ (if_pos (Lifecycle.awaits_iff.2 ⟨resetting, runs⟩))

/-- Settles O34, event by event. -/
theorem powerUpProceeds : Obligations.PowerUpProceeds := by
  intro s b
  refine ⟨fun powering awaiting => ?_, fun other => ?_, fun powering runs => ?_, fun resetting runs => ?_, ?_⟩
  · refine congrArg _ ((if_pos (Lifecycle.awaitsPgood_iff.2 ⟨powering, awaiting⟩)).trans ?_)
    exact State.updLife_setBay s b { s.bay b with pgood := true } Lifecycle.pgoodArrived
  · refine congrArg _ (if_neg (fun awaits => ?_))
    obtain ⟨powering, awaiting⟩ := Lifecycle.awaitsPgood_iff.1 awaits
    exact other.elim (· powering) (· awaiting)
  · exact congrArg _ (if_pos (Lifecycle.awaits_iff.2 ⟨powering, runs⟩))
  · exact exec_moduleResetExpiry false resetting runs
  · rintro i l (⟨rfl, resetting, runs, rfl⟩ | ⟨rfl, profiling, unseen, rfl⟩)
    · rw [exec_moduleResetExpiry true resetting runs, if_pos rfl, State.takeMrdy_eq, State.updLife_bay, if_pos rfl]
      exact congrArg _ (State.setBay_setBay ..)
    · exact congrArg _ ((if_pos ⟨profiling, unseen⟩).trans (s.takeMrdy_eq b))

/-! ## Faults -/

/-- PGOOD is watched once it has arrived, until the bay leaves service (R83). -/
theorem Lifecycle.watchesPgood_iff {l : Lifecycle} :
    l.watchesPgood = true ↔
      (l.state = .powering ∧ l.phase = some .settlingPower) ∨
        l.state ∈ [BayState.resetting, .profiling, .ready, .quiescing] := by
  unfold Lifecycle.watchesPgood
  cases l.state <;> simp

/-- The states in which the loss of PGOOD is not looked at (R83). -/
theorem Lifecycle.not_watchesPgood {l : Lifecycle}
    (h : (l.state = .powering ∧ l.phase ≠ some .settlingPower) ∨
      l.state ∈ [BayState.empty, .settling, .identifying, .unpowered, .quiesced, .faulted]) :
    ¬ l.watchesPgood = true := by
  rw [Lifecycle.watchesPgood_iff]
  rcases h with ⟨powering, phase⟩ | unwatched
  · simp [powering, phase]
  · revert unwatched
    cases l.state <;> simp

/-- A watched loss is judged from the bay before it, but for the level itself (R83, R92). -/
theorem State.pgoodLost_spec (s : State) (b : BayId) :
    BayFaulted s ((s.setPgood b false).enterFaulted b .powerFail) b .powerFail ∧
    (((s.setPgood b false).enterFaulted b .powerFail).bay b).pgood = false := by
  obtain ⟨faulted, level⟩ := (s.setPgood b false).enterFaulted_spec b .powerFail
  have judged := BayFaulted.ofSetBay (y := s.bay b) faulted rfl rfl rfl rfl rfl
  rw [State.setBay_self rfl] at judged
  exact ⟨judged, by simpa using level⟩

/-- Settles O35: each event that faults is the entry to FAULTED. -/
theorem faultEventsFaultBay : Obligations.FaultEventsFaultBay := by
  intro s b
  refine ⟨fun powering runs => ?_, fun profiling runs => ?_, fun watched => ?_, fun unwatched => ?_⟩
  · exact ⟨_, congrArg Host.Outcome.next (if_pos (Lifecycle.awaits_iff.2 ⟨powering, runs⟩)),
      s.enterFaulted_spec b .powerFail⟩
  · exact ⟨_, congrArg Host.Outcome.next (if_pos (Lifecycle.awaits_iff.2 ⟨profiling, runs⟩)),
      s.enterFaulted_spec b .readyTimeout⟩
  · exact ⟨_, congrArg Host.Outcome.next (if_pos (Lifecycle.watchesPgood_iff.2 watched)), s.pgoodLost_spec b⟩
  · exact congrArg _ (if_neg (Lifecycle.not_watchesPgood unwatched))

end Sys2Proof.Machine

/-! PROOF. POWER_ON and BAY_RESTART by the state of the bay (R79, R81, R82, R93, R100). -/

namespace Sys2Proof.Machine

/-! ## The operands and the module class -/

theorem powerOnOperands_of {x k : Byte} {b : BayId} {supply : Supply} (bay : x.toNat = b.toNat)
    (named : (k = 1 ∧ supply = .l) ∨ (k = 2 ∧ supply = .h)) : powerOnOperands [x, k] = some (b, supply) := by
  have operand : supplyOperand k = some supply := by rcases named with ⟨rfl, rfl⟩ | ⟨rfl, rfl⟩ <;> rfl
  simp only [powerOnOperands, bayOperand_of bay, operand]

theorem Lifecycle.supports_iff {l : Lifecycle} {supply : Supply} :
    l.supports supply = true ↔ ∃ m, l.moduleClass = some m ∧ m.supports supply = true := by
  unfold Lifecycle.supports
  cases l.moduleClass <;> simp

/-! ## The two commands by the state of the bay -/

section
variable {u : State} {o : List Byte} {b : BayId} {supply : Supply}

/-- A bay with its power off is powered at a class that its module supports (R81). -/
theorem commandPowerOn_unpowered (operands : powerOnOperands o = some (b, supply))
    (state : (u.bay b).life.state ∈ [BayState.unpowered, .quiesced]) :
    commandPowerOn o u =
      if (u.bay b).life.supports supply then (u.setBay b ((u.bay b).enterPowering supply)).done
      else u.refuse .supplyMismatch := by
  unfold commandPowerOn
  rw [operands]
  simp only [List.mem_cons, List.not_mem_nil, or_false] at state
  rcases state with state | state <;> simp only [state]

/-- A bay without a module that has been sampled refuses POWER_ON (R81). -/
theorem commandPowerOn_noModule (operands : powerOnOperands o = some (b, supply))
    (state : (u.bay b).life.state ∈ [BayState.empty, .settling, .identifying]) :
    commandPowerOn o u = u.refuse .noModule := by
  unfold commandPowerOn
  rw [operands]
  simp only [List.mem_cons, List.not_mem_nil, or_false] at state
  rcases state with state | state | state <;> simp only [state]

/-- A bay that is powered, or faulted, refuses POWER_ON (R81). -/
theorem commandPowerOn_wrongState (operands : powerOnOperands o = some (b, supply))
    (state : (u.bay b).life.state ∈ [BayState.powering, .resetting, .profiling, .ready, .quiescing, .faulted]) :
    commandPowerOn o u = u.refuse .wrongState := by
  unfold commandPowerOn
  rw [operands]
  simp only [List.mem_cons, List.not_mem_nil, or_false] at state
  rcases state with state | state | state | state | state | state <;> simp only [state]

/-- A bay that is shut down enters IDENTIFYING again (R93). -/
theorem commandBayRestart_done (operands : oneOperand bayOperand o = some b)
    (state : (u.bay b).life.state ∈ [BayState.faulted, .quiesced]) :
    commandBayRestart o u = (u.setBay b (u.bay b).enterIdentifying).done := by
  unfold commandBayRestart
  rw [operands]
  simp only [List.mem_cons, List.not_mem_nil, or_false] at state
  rcases state with state | state <;> simp only [state]

/-- Any other bay refuses BAY_RESTART (R93). -/
theorem commandBayRestart_wrongState (operands : oneOperand bayOperand o = some b)
    (state : (u.bay b).life.state ∉ [BayState.faulted, .quiesced]) :
    commandBayRestart o u = u.refuse .wrongState := by
  unfold commandBayRestart
  rw [operands]
  dsimp only
  cases is : (u.bay b).life.state with
  | faulted | quiesced => exact absurd (by rw [is]; decide) state
  | empty | settling | identifying | unpowered | powering | resetting | profiling | ready | quiescing => rfl

end

/-! ## The accepted commands -/

section
variable {s : State} {q : Byte} {o : List Byte} {b : BayId} {supply : Supply}

theorem exec_powerOn_done (accepts : s.AcceptsMgmt q) (operands : powerOnOperands o = some (b, supply))
    (state : (s.bay b).life.state ∈ [BayState.unpowered, .quiesced])
    (supported : (s.bay b).life.supports supply = true) :
    exec (.powerOn q o) s = .next ((s.setBay b ((s.bay b).enterPowering supply)).responded q .done []) := by
  refine congrArg _ (State.intakeMgmt_done accepts _ _ _ ?_)
  exact (commandPowerOn_unpowered (u := s.consumed .mgmt) operands state).trans (if_pos supported)

/-- A POWER_ON that meets a refusal changes nothing (R81). -/
theorem exec_powerOn_refused {status : MgmtStatus} (accepts : s.AcceptsMgmt q)
    (refused : commandPowerOn o (s.consumed .mgmt) = (s.consumed .mgmt).refuse status) :
    exec (.powerOn q o) s = .next (s.responded q status []) :=
  congrArg _ (State.intakeMgmt_refuse accepts _ _ refused)

end

/-- Settles O47: the operands, then the state of the bay, then the module's class and PGOOD. -/
theorem powerOnAndRestartMoveBay : Obligations.PowerOnAndRestartMoveBay := by
  intro s q x b supply k accepts bay named
  have operands := powerOnOperands_of bay named
  have operand : oneOperand bayOperand [x] = some b := bayOperand_of bay
  refine ⟨fun state => ⟨fun m cls supported => ?_, fun unsupported => ?_⟩, fun state => ?_, fun state => ?_,
    fun state => ?_, fun state => ?_⟩
  · have powered := exec_powerOn_done accepts operands state (Lifecycle.supports_iff.2 ⟨m, cls, supported⟩)
    refine ⟨fun low => ?_, fun high => ?_⟩
    · rw [powered, Bay.enterPowering_awaiting _ low]
    · rw [powered, Bay.enterPowering_settling _ high]
  · refine exec_powerOn_refused accepts
      ((commandPowerOn_unpowered (u := s.consumed .mgmt) operands state).trans (if_neg (fun supports => ?_)))
    obtain ⟨m, cls, supported⟩ := Lifecycle.supports_iff.1 supports
    exact absurd ((unsupported m cls).symm.trans supported) Bool.false_ne_true
  · exact exec_powerOn_refused accepts (commandPowerOn_noModule operands state)
  · exact exec_powerOn_refused accepts (commandPowerOn_wrongState operands state)
  · exact congrArg _ (State.intakeMgmt_done accepts _ _ _
      (commandBayRestart_done (u := s.consumed .mgmt) operand state))
  · exact congrArg _ (State.intakeMgmt_refuse accepts _ _ (commandBayRestart_wrongState operand state))

end Sys2Proof.Machine

/-! PROOF. The removal of a module at the expiry of the removal timer (R23, R100, R101, R105). -/

namespace Sys2Proof.Machine

theorem Engine.cleared_withoutWork (e : Engine) : e.cleared.WithoutWork := ⟨rfl, rfl, rfl, rfl, rfl, rfl⟩

/-- The bay after a removal: EMPTY, or SETTLING at once where both contacts are asserted (R100, R101, R105). -/
theorem Bay.emptied_detect (bay : Bay) :
    bay.emptied.detect =
      { bay with
        engine := bay.engine.cleared, list := [],
        life := { bay.life with
          state := if bay.present then .settling else .empty,
          timer := if bay.present then some .stablePresence else none,
          supply := .none, mrstAsserted := true, phase := none, mrdySeen := false, summary := none,
          quiesceMode := none, faultReason := none, moduleClass := none, lamp := .off, filter := .idle } } := by
  have same : bay.emptied.present = bay.present := rfl
  have empty : bay.emptied.life.state = .empty := rfl
  unfold Bay.detect
  rw [same]
  cases bay.present with
  | true => exact if_pos ⟨empty, rfl⟩
  | false => exact if_neg (fun h => Bool.false_ne_true h.2)

section
variable {s : State} {b : BayId}

/-- The removal's purge, and REMOVED behind it (R41, R101). -/
theorem State.removeModule_purge (s : State) (b : BayId) :
    BusReleased s (s.removeModule b) b ∧ PurgeCredits s (s.removeModule b) (s.bay b).list ∧
    (s.removeModule b).answerOrder = s.answerOrder ++ purgeAnswers .gone (s.bay b).list ∧
    (s.removeModule b).notice = (s.notice.purgeRaises b .gone (s.bay b).list).raise (.bay b .removed) none := by
  obtain ⟨bus, credits, answers, notice⟩ := s.stopAndPurge_spec b .gone (by decide)
  refine ⟨bus.congr rfl ?_, credits.congr rfl ?_ rfl, ?_, ?_⟩
  · simp [State.removeModule]
  · simp [State.removeModule]
  · simpa [State.removeModule] using answers
  · simp [State.removeModule, State.raise, notice]

theorem State.removalWindowClear_keep (keep : (s.bay b).life.policy.windowsOnRemoval = .keep) :
    s.removalWindowClear b = s := by
  simp only [State.removalWindowClear, keep]

theorem State.removalWindowClear_clear (clear : (s.bay b).life.policy.windowsOnRemoval = .clear) :
    s.removalWindowClear b = s.setWindows (clearWindowsOf s.windows b) := by
  simp only [State.removalWindowClear, clear]

/-- The policy's clear of the windows is the removal's whole effect on the table (R23, R101). -/
theorem State.removeModule_windows (s : State) (b : BayId) :
    (s.removeModule b).windows = (((s.stopEngine b).purge b .gone).removalWindowClear b).windows := by
  simp [State.removeModule]

/-- The windows after the removal, by the policy (R23). -/
theorem State.removeModule_windows_keep (keep : (s.bay b).life.policy.windowsOnRemoval = .keep) :
    (s.removeModule b).windows = s.windows := by
  rw [State.removeModule_windows, State.removalWindowClear_keep (by simpa using keep)]
  simp

theorem State.removeModule_windows_clear (clear : (s.bay b).life.policy.windowsOnRemoval = .clear) :
    (s.removeModule b).windows = clearWindowsOf s.windows b := by
  rw [State.removeModule_windows, State.removalWindowClear_clear (by simpa using clear)]
  simp

theorem exec_removalTimerExpiry (filtered : (s.bay b).life.state.filtered = true)
    (timing : (s.bay b).life.filter = .timing) :
    exec (.removalTimerExpiry b) s = .next (s.removeModule b) :=
  congrArg _ (if_pos (by rw [filtered, timing]; rfl))

end

/-- Settles O36: the removal's bay, its purge, its windows, and its frame. -/
theorem removalEmptiesBay : Obligations.RemovalEmptiesBay := by
  intro s b notEmpty notSettling timing
  obtain ⟨bus, credits, answers, notice⟩ := s.removeModule_purge b
  have here : (s.removeModule b).bay b = (s.bay b).emptied.detect := by simp
  rw [Bay.emptied_detect] at here
  refine ⟨_, exec_removalTimerExpiry ((BayState.filtered_iff _).2 ⟨notEmpty, notSettling⟩) timing, ?_⟩
  rw [here]
  refine ⟨rfl, rfl, Engine.cleared_withoutWork _, rfl, ⟨rfl, rfl, rfl⟩, bus, credits, answers, notice,
    State.removeModule_windows_keep, fun clear j => ?_, fun x ne => ?_, by simp⟩
  · rw [State.removeModule_windows_clear clear, clearWindowsOf_entry, Window.clear_if_servesBay]
  · rw [State.removeModule_bay, if_neg (Ne.symm ne)]

end Sys2Proof.Machine

/-! SUPPORT. QUIESCE at the bay: a drain, an abandonment and the conversion of one into the other (R42, R70, R71, R108
to R112), none of which looks at the MGMT credit that the command has consumed (R148). -/

namespace Sys2Proof.Machine

/-! ## Entering QUIESCING -/

/-- The bay has entered QUIESCING in a mode, before its list is looked at (R108, R109). -/
def State.startQuiescing (s : State) (b : BayId) (mode : QuiesceMode) : State :=
  s.updLife b (fun l => { l with state := .quiescing, quiesceMode := some mode })

/-- The engine that is to stop at the end of its cycle (R70). -/
def Engine.stopping (e : Engine) : Engine := { e with stopAfterCycle := true }

section
variable {s : State} {b : BayId}

@[simp] theorem State.startQuiescing_bay (s : State) (b c : BayId) (mode : QuiesceMode) :
    (s.startQuiescing b mode).bay c =
      if b = c then { s.bay b with life := { (s.bay b).life with state := .quiescing, quiesceMode := some mode } }
      else s.bay c :=
  State.updLife_bay s b c _

@[simp] theorem State.startQuiescing_answerOrder (s : State) (b : BayId) (mode : QuiesceMode) :
    (s.startQuiescing b mode).answerOrder = s.answerOrder := rfl

@[simp] theorem State.startQuiescing_bus (s : State) (b : BayId) (mode : QuiesceMode) :
    (s.startQuiescing b mode).bus = s.bus := rfl

theorem State.enterQuiescing_drain (s : State) (b : BayId) :
    s.enterQuiescing b .drain = (s.startQuiescing b .drain).completeIfEmpty b := rfl

theorem State.enterQuiescing_abandon (s : State) (b : BayId) :
    s.enterQuiescing b .abandon = ((s.startQuiescing b .abandon).abandon b).completeIfEmpty b := rfl

/-- The conversion of a drain is an abandonment from QUIESCING (R109, R110). -/
theorem State.convertDrain_eq (quiescing : (s.bay b).life.state = .quiescing) :
    s.convertDrain b = s.enterQuiescing b .abandon := by
  unfold State.convertDrain State.enterQuiescing State.updLife
  rw [← quiescing]

theorem State.completeIfEmpty_of_empty (empty : (s.bay b).list = []) : s.completeIfEmpty b = s.completeQuiesce b :=
  if_pos empty

theorem State.completeIfEmpty_of_waiting (waiting : (s.bay b).list ≠ []) : s.completeIfEmpty b = s :=
  if_neg waiting

theorem State.abandon_stopped (stopped : (s.bay b).engine.state ≠ .inCycle) :
    s.abandon b = (s.stopEngine b).purge b .quiesced :=
  if_neg stopped

theorem State.abandon_running (running : (s.bay b).engine.state = .inCycle) :
    s.abandon b = (s.updEngine b Engine.stopping).purgeBehindHead b .quiesced :=
  if_pos running

end

/-! ## The consumed MGMT credit -/

section
variable (s : State) (b : BayId) (st : AnswerStatus)

theorem State.freed_consumed (p : Pool) : (s.consumed .mgmt).freed p = (s.freed p).consumed .mgmt := by
  have up : (s.consumed .mgmt).isUp = s.isUp := rfl
  unfold State.freed
  rw [up]
  split
  next => cases p <;> rfl
  next => rfl

theorem State.settleEntry_consumed (e : Entry) :
    (s.consumed .mgmt).settleEntry b st e = (s.settleEntry b st e).consumed .mgmt := by
  cases e with
  | store =>
    simp only [State.settleEntry]
    split
    next => exact s.freed_consumed .store
    next => exact (s.dropStore b st).freed_consumed .store
  | request =>
    simp only [State.settleEntry]
    split
    next => exact s.freed_consumed .request
    next => rfl

theorem State.settleEntries_consumed (l : List Entry) :
    (s.consumed .mgmt).settleEntries b st l = (s.settleEntries b st l).consumed .mgmt := by
  induction l generalizing s with
  | nil => rfl
  | cons e l ih => exact (congrArg (State.settleEntries · b st l) (s.settleEntry_consumed b st e)).trans (ih _)

theorem State.purge_consumed : (s.consumed .mgmt).purge b st = (s.purge b st).consumed .mgmt :=
  congrArg (State.setList · b []) (s.settleEntries_consumed b st (s.bay b).list)

theorem State.purgeBehindHead_consumed :
    (s.consumed .mgmt).purgeBehindHead b st = (s.purgeBehindHead b st).consumed .mgmt := by
  unfold State.purgeBehindHead
  rw [State.consumed_bay]
  cases (s.bay b).list with
  | nil => rfl
  | cons e rest => exact congrArg (State.setList · b [e]) (s.settleEntries_consumed b st rest)

theorem State.stopEngine_consumed : (s.consumed .mgmt).stopEngine b = (s.stopEngine b).consumed .mgmt := by
  have bus : (s.consumed .mgmt).bus = s.bus := rfl
  unfold State.stopEngine State.releaseBus
  rw [bus]
  cases s.bus.driven with
  | none => rfl
  | some d => dsimp only; split <;> rfl

theorem State.abandon_consumed : (s.consumed .mgmt).abandon b = (s.abandon b).consumed .mgmt := by
  by_cases running : (s.bay b).engine.state = .inCycle
  · rw [State.abandon_running running, State.abandon_running (s := s.consumed .mgmt) running]
    exact (s.updEngine b Engine.stopping).purgeBehindHead_consumed b .quiesced
  · rw [State.abandon_stopped running, State.abandon_stopped (s := s.consumed .mgmt) running,
      State.stopEngine_consumed, State.purge_consumed]

theorem State.completeIfEmpty_consumed :
    (s.consumed .mgmt).completeIfEmpty b = (s.completeIfEmpty b).consumed .mgmt := by
  unfold State.completeIfEmpty
  rw [State.consumed_bay]
  split <;> rfl

theorem State.enterQuiescing_consumed (mode : QuiesceMode) :
    (s.consumed .mgmt).enterQuiescing b mode = (s.enterQuiescing b mode).consumed .mgmt := by
  cases mode with
  | drain => exact (s.startQuiescing b .drain).completeIfEmpty_consumed b
  | abandon =>
    have abandoned := (s.startQuiescing b .abandon).abandon_consumed b
    exact (congrArg (State.completeIfEmpty · b) abandoned).trans (State.completeIfEmpty_consumed _ b)

theorem State.quiesceAtOnce_consumed : (s.consumed .mgmt).quiesceAtOnce b = (s.quiesceAtOnce b).consumed .mgmt :=
  congrArg (fun u => (u.updLife b Lifecycle.quiescedNow).raise (.bay b .quiesced) none) (s.stopEngine_consumed b)

end

/-! ## What a drain and an abandonment leave -/

section
variable {s : State} {b : BayId} {bay : Bay} {head : Entry} {rest : List Entry}

/-- A purge behind the head does with the entries behind it what a purge does (R41, R42). -/
theorem State.purgeBehindHead_spec {st : AnswerStatus} (notOk : st ≠ .ok) (list : (s.bay b).list = head :: rest) :
    PurgeCredits s (s.purgeBehindHead b st) rest ∧
    (s.purgeBehindHead b st).answerOrder = s.answerOrder ++ purgeAnswers st rest ∧
    (s.purgeBehindHead b st).notice = s.notice.purgeRaises b st rest := by
  obtain ⟨credits, answers, notice⟩ := State.settleEntries_spec b st notOk rest s
  unfold State.purgeBehindHead
  rw [list]
  exact ⟨credits.congr rfl rfl rfl, answers, notice⟩

/-- A drain waits for the entries of the list (R108). -/
theorem State.enterQuiescing_drain_waiting (waiting : (s.bay b).list ≠ []) :
    s.enterQuiescing b .drain = s.setBay b
      { s.bay b with life := { (s.bay b).life with state := .quiescing, quiesceMode := some .drain } } := by
  rw [State.enterQuiescing_drain, State.completeIfEmpty_of_waiting (by simpa using waiting)]
  rfl

/-- A drain of an empty list is complete at once (R108, R112). -/
theorem State.enterQuiescing_drain_empty (empty : (s.bay b).list = []) :
    s.enterQuiescing b .drain =
      (s.setBay b { s.bay b with life := (s.bay b).life.quiescedWith (s.bay b).life.mrdySeen }).raise
        (.bay b .quiesced) none := by
  rw [State.enterQuiescing_drain, State.completeIfEmpty_of_empty (by simpa using empty)]
  refine congrArg (State.raise · (.bay b .quiesced) none) ?_
  exact (State.updLife_setBay ..).trans rfl

/-- An abandonment without a cycle in progress shuts the bay down at once (R70, R109, R112). -/
theorem Bay.quiescing_abandon_stopped (stopped : bay.engine.state ≠ .inCycle) :
    bay.quiescing .abandon =
      { bay with
        engine := bay.engine.cleared, list := [], life := bay.life.quiescedWith bay.life.mrdySeen } := by
  simp only [Bay.quiescing, Bay.abandoned, if_neg stopped]
  rfl

/-- An abandonment leaves a cycle in progress and the head that it serves (R42, R70, R109). -/
theorem Bay.quiescing_abandon_running (running : bay.engine.state = .inCycle) (list : bay.list = head :: rest) :
    bay.quiescing .abandon =
      { bay with
        engine := { bay.engine with stopAfterCycle := true }, list := [head],
        life := { bay.life with state := .quiescing, quiesceMode := some .abandon } } := by
  simp only [Bay.quiescing, Bay.abandoned, if_pos running, list]
  rfl

/-- Without a cycle in progress an abandonment frees the bus of the bay and purges the whole list, and QUIESCED is
raised behind the purge (R41, R71, R112). -/
theorem State.enterQuiescing_abandon_stopped (stopped : (s.bay b).engine.state ≠ .inCycle) :
    BusReleased s (s.enterQuiescing b .abandon) b ∧
    PurgeCredits s (s.enterQuiescing b .abandon) (s.bay b).list ∧
    (s.enterQuiescing b .abandon).answerOrder = s.answerOrder ++ purgeAnswers .quiesced (s.bay b).list ∧
    (s.enterQuiescing b .abandon).notice =
      (s.notice.purgeRaises b .quiesced (s.bay b).list).raise (.bay b .quiesced) none := by
  have list : ((s.startQuiescing b .abandon).bay b).list = (s.bay b).list := by simp
  obtain ⟨bus, credits, answers, notice⟩ := (s.startQuiescing b .abandon).stopAndPurge_spec b .quiesced (by decide)
  rw [list] at credits answers notice
  rw [State.enterQuiescing_abandon, State.abandon_stopped (by simpa using stopped),
    State.completeIfEmpty_of_empty (by simp)]
  refine ⟨bus.congr rfl (by simp), credits.congr rfl (by simp) rfl, by simpa using answers, ?_⟩
  exact congrArg (NoticeUnit.raise · (.bay b .quiesced) none) notice

/-- Behind a cycle in progress an abandonment purges the entries behind the head, and the bus stays as it is (R42,
R70). -/
theorem State.enterQuiescing_abandon_running (running : (s.bay b).engine.state = .inCycle)
    (list : (s.bay b).list = head :: rest) :
    PurgeCredits s (s.enterQuiescing b .abandon) rest ∧
    (s.enterQuiescing b .abandon).answerOrder = s.answerOrder ++ purgeAnswers .quiesced rest ∧
    (s.enterQuiescing b .abandon).notice = s.notice.purgeRaises b .quiesced rest ∧
    (s.enterQuiescing b .abandon).bus = s.bus := by
  have same : (((s.startQuiescing b .abandon).updEngine b Engine.stopping).bay b).list = head :: rest := by
    simpa using list
  obtain ⟨credits, answers, notice⟩ := State.purgeBehindHead_spec (by decide : AnswerStatus.quiesced ≠ .ok) same
  rw [State.enterQuiescing_abandon, State.abandon_running (by simpa using running),
    State.completeIfEmpty_of_waiting (by simp [list])]
  exact ⟨credits.congr rfl rfl rfl, answers, notice, by simp⟩

end

end Sys2Proof.Machine

/-! PROOF. QUIESCE by the state of the bay and the mode (R107 to R113). -/

namespace Sys2Proof.Machine

/-! ## The operands -/

theorem quiesceOperands_of {x k : Byte} {b : BayId} {mode : QuiesceMode} (bay : x.toNat = b.toNat)
    (named : modeOperand k = some mode) : quiesceOperands [x, k] = some (b, mode) := by
  simp only [quiesceOperands, bayOperand_of bay, named]

/-- A byte in range names a mode, and 0 names the drain (R107). -/
theorem modeOperand_of {k : Byte} (h : k.toNat < 2) :
    ∃ mode, modeOperand k = some mode ∧ (k = 0 → mode = .drain) := by
  unfold modeOperand
  rcases (by omega : k.toNat = 0 ∨ k.toNat = 1) with code | code
  · exact ⟨.drain, by simp only [code], fun _ => rfl⟩
  · exact ⟨.abandon, by simp only [code], by rintro rfl; cases code⟩

/-! ## The command by the state of the bay -/

section
variable {u : State} {o : List Byte} {b : BayId} {mode : QuiesceMode}

/-- A bay without a module that has been sampled refuses QUIESCE (R107). -/
theorem commandQuiesce_noModule (operands : quiesceOperands o = some (b, mode))
    (state : (u.bay b).life.state ∈ [BayState.empty, .settling, .identifying]) :
    commandQuiesce o u = u.refuse .noModule := by
  unfold commandQuiesce
  rw [operands]
  simp only [List.mem_cons, List.not_mem_nil, or_false] at state
  rcases state with state | state | state <;> simp only [state]

/-- A bay that is not in service is shut down at once, in either mode (R113). -/
theorem commandQuiesce_atOnce (operands : quiesceOperands o = some (b, mode))
    (state : (u.bay b).life.state ∈ [BayState.unpowered, .powering, .resetting, .profiling, .faulted]) :
    commandQuiesce o u = (u.quiesceAtOnce b).done := by
  unfold commandQuiesce
  rw [operands]
  simp only [List.mem_cons, List.not_mem_nil, or_false] at state
  rcases state with state | state | state | state | state <;> simp only [state]

theorem commandQuiesce_ready (operands : quiesceOperands o = some (b, mode))
    (ready : (u.bay b).life.state = .ready) : commandQuiesce o u = (u.enterQuiescing b mode).done := by
  unfold commandQuiesce
  rw [operands]
  simp only [ready]

/-- An abandonment converts a drain, and the answer is ALREADY (R110). -/
theorem commandQuiesce_convert (operands : quiesceOperands o = some (b, .abandon))
    (quiescing : (u.bay b).life.state = .quiescing) (drain : (u.bay b).life.quiesceMode = some .drain) :
    commandQuiesce o u = { status := .already, results := [], after := u.enterQuiescing b .abandon } := by
  rw [← State.convertDrain_eq quiescing]
  unfold commandQuiesce
  rw [operands]
  simp only [quiescing, drain, and_self, if_true]

/-- A bay that is shut down, or in a quiesce that the command does not convert, refuses QUIESCE (R107, R110). -/
theorem commandQuiesce_already (operands : quiesceOperands o = some (b, mode))
    (state : (u.bay b).life.state = .quiesced ∨
      ((u.bay b).life.state = .quiescing ∧ ((u.bay b).life.quiesceMode ≠ some .drain ∨ mode = .drain))) :
    commandQuiesce o u = u.refuse .already := by
  unfold commandQuiesce
  rw [operands]
  rcases state with quiesced | ⟨quiescing, other⟩
  · simp only [quiesced]
  · simp only [quiescing]
    refine if_neg (fun ⟨drain, abandon⟩ => other.elim (· drain) (fun same => ?_))
    cases same.symm.trans abandon

end

/-! ## The accepted command -/

section
variable {s t : State} {q : Byte} {o : List Byte} {b : BayId} {mode : QuiesceMode} {status : MgmtStatus}

/-- An accepted QUIESCE leaves what the command makes of the bridge with its credit consumed (R148, R162). -/
theorem exec_quiesce (accepts : s.AcceptsMgmt q)
    (h : commandQuiesce o (s.consumed .mgmt) = { status := status, results := [], after := t.consumed .mgmt }) :
    exec (.quiesce q o) s = .next (t.responded q status []) := by
  refine congrArg _ (State.intakeMgmt_accept accepts _ t status [] ?_ ?_ ?_) <;> rw [h]
  rfl

theorem exec_quiesce_ready (accepts : s.AcceptsMgmt q) (operands : quiesceOperands o = some (b, mode))
    (ready : (s.bay b).life.state = .ready) :
    exec (.quiesce q o) s = .next ((s.enterQuiescing b mode).responded q .done []) :=
  exec_quiesce accepts ((commandQuiesce_ready (u := s.consumed .mgmt) operands ready).trans
    (congrArg State.done (s.enterQuiescing_consumed b mode)))

/-- An abandonment acts alike from READY and on a drain; the answers differ (R109, R110). -/
theorem exec_quiesce_abandon (accepts : s.AcceptsMgmt q) (operands : quiesceOperands o = some (b, .abandon))
    (asked : ((s.bay b).life.state = .ready ∧ status = .done) ∨
      ((s.bay b).life.state = .quiescing ∧ (s.bay b).life.quiesceMode = some .drain ∧ status = .already)) :
    exec (.quiesce q o) s = .next ((s.enterQuiescing b .abandon).responded q status []) := by
  rcases asked with ⟨ready, rfl⟩ | ⟨quiescing, drain, rfl⟩
  · exact exec_quiesce_ready accepts operands ready
  · refine exec_quiesce accepts ((commandQuiesce_convert (u := s.consumed .mgmt) operands quiescing drain).trans ?_)
    rw [State.enterQuiescing_consumed]

end

/-- Settles O48, by the state of the bay and the mode. -/
theorem quiesceShutsBayDown : Obligations.QuiesceShutsBayDown := by
  intro s q x b accepts bay
  have drain : quiesceOperands [x, 0] = some (b, .drain) := quiesceOperands_of bay rfl
  have abandon : quiesceOperands [x, 1] = some (b, .abandon) := quiesceOperands_of bay rfl
  refine ⟨fun k range => ?_, fun ready => ⟨fun waiting => ?_, fun empty => ?_⟩,
    fun status asked => ⟨fun stopped => ?_, fun head rest running list => ?_⟩⟩
  · obtain ⟨mode, named, zero⟩ := modeOperand_of range
    have operands := quiesceOperands_of bay named
    refine ⟨fun state => ?_, fun state => ?_, fun state => ⟨s.quiesceAtOnce b, ?_, ?_⟩⟩
    · exact exec_quiesce accepts (commandQuiesce_noModule (u := s.consumed .mgmt) operands state)
    · refine exec_quiesce accepts (commandQuiesce_already (u := s.consumed .mgmt) operands ?_)
      exact state.imp_right (And.imp_right (Or.imp_right zero))
    · exact exec_quiesce accepts ((commandQuiesce_atOnce (u := s.consumed .mgmt) operands state).trans
        (congrArg State.done (s.quiesceAtOnce_consumed b)))
    · rw [State.quiesceAtOnce_bay, if_pos rfl]
      refine ⟨rfl, Engine.cleared_withoutWork _, rfl, ⟨rfl, rfl, rfl⟩, rfl,
        (s.releaseBus_spec b).congr rfl (s.quiesceAtOnce_bus b), ?_, fun y ne => ?_, by simp⟩
      · simp [State.quiesceAtOnce, State.raise]
      · rw [State.quiesceAtOnce_bay, if_neg (Ne.symm ne)]
  · rw [exec_quiesce_ready accepts drain ready, State.enterQuiescing_drain_waiting waiting]
  · rw [exec_quiesce_ready accepts drain ready, State.enterQuiescing_drain_empty empty]
  · obtain ⟨bus, credits, answers, notice⟩ := State.enterQuiescing_abandon_stopped stopped
    refine ⟨_, exec_quiesce_abandon accepts abandon asked, ?_⟩
    rw [State.enterQuiescing_bay, if_pos rfl, Bay.quiescing_abandon_stopped stopped]
    refine ⟨rfl, rfl, Engine.cleared_withoutWork _, rfl, ⟨rfl, rfl, rfl⟩, bus, credits, answers, notice,
      fun y ne => ?_, by simp⟩
    rw [State.enterQuiescing_bay, if_neg (Ne.symm ne)]
  · obtain ⟨credits, answers, notice, bus⟩ := State.enterQuiescing_abandon_running running list
    refine ⟨_, exec_quiesce_abandon accepts abandon asked, ?_⟩
    rw [State.enterQuiescing_bay, if_pos rfl, Bay.quiescing_abandon_running running list]
    refine ⟨rfl, rfl, rfl, ⟨rfl, rfl, rfl⟩, credits, answers, notice, bus, fun y ne => ?_, by simp⟩
    rw [State.enterQuiescing_bay, if_neg (Ne.symm ne)]

end Sys2Proof.Machine

/-! SUPPORT. The books of the bridge: the entries of a pool in use, its balance of entries and credits (R119), and the
operations inside the bridge, which keep the balance of every pool, the management context and the waiting notices. -/

namespace Sys2Proof.Machine

/-! ## The entries in use -/

/-- The size of a pool (R119). -/
def Pool.size : Pool → Nat
  | .store => Config.storePoolSize
  | .request => Config.requestPoolSize
  | .mgmt => Config.mgmtPoolSize

/-- The pool of an entry of a bay list (R27, R29). -/
def Entry.pool : Entry → Pool
  | .store _ => .store
  | .request _ => .request

/-- The entries of a pool in a bay list. -/
def entriesOf (p : Pool) (l : List Entry) : Nat := l.countP (fun e => decide (e.pool = p))

/-- The entries of a pool that are in use outside the bay lists: the answers, and the MGMT entry (R119, R121). -/
def State.usedOutside (s : State) : Pool → Nat
  | .store => 0
  | .request => s.answerOrder.length
  | .mgmt => s.mgmtInUse

/-- The entries of a pool in use (R119). -/
def State.inUse (s : State) : Pool → Nat
  | .store => s.storesInUse
  | .request => s.requestsInUse
  | .mgmt => s.mgmtInUse

/-- The entries of a pool in use, its credits outstanding and its credits pending return together (R119). -/
def State.balance (s : State) (p : Pool) : Nat :=
  s.inUse p + (s.ledger.get p).outstanding + (s.ledger.get p).pendingReturn

theorem entriesOf_store (l : List Entry) : entriesOf .store l = l.countP Entry.isStore :=
  List.countP_congr (fun e _ => by cases e <;> simp [Entry.pool, Entry.isStore])

theorem entriesOf_request (l : List Entry) : entriesOf .request l = l.countP (fun e => !e.isStore) :=
  List.countP_congr (fun e _ => by cases e <;> simp [Entry.pool, Entry.isStore])

theorem entriesOf_mgmt (l : List Entry) : entriesOf .mgmt l = 0 :=
  List.countP_eq_zero.2 (fun e _ => by cases e <;> simp [Entry.pool])

@[simp] theorem entriesOf_nil (p : Pool) : entriesOf p [] = 0 := rfl

theorem entriesOf_cons (p : Pool) (e : Entry) (l : List Entry) :
    entriesOf p (e :: l) = entriesOf p l + if p = e.pool then 1 else 0 := by
  simp [entriesOf, List.countP_cons, eq_comm]

theorem entriesOf_append (p : Pool) (k l : List Entry) : entriesOf p (k ++ l) = entriesOf p k + entriesOf p l :=
  List.countP_append

/-- The entries in use, bay by bay. -/
theorem State.inUse_eq (s : State) (p : Pool) :
    s.inUse p = (BayId.all.map (fun b => entriesOf p (s.bay b).list)).sum + s.usedOutside p := by
  cases p with
  | store => simp only [entriesOf_store]; rfl
  | request => simp only [entriesOf_request]; rfl
  | mgmt => simp [entriesOf_mgmt, State.inUse, State.usedOutside]

section
variable {s t : State} {b : BayId}

/-- Where one list changes, the entries in use change by its own and by those outside the lists. -/
theorem State.inUse_change (others : ∀ c, b ≠ c → (t.bay c).list = (s.bay c).list) (p : Pool) :
    t.inUse p + (entriesOf p (s.bay b).list + s.usedOutside p) =
      s.inUse p + (entriesOf p (t.bay b).list + t.usedOutside p) := by
  have same : ∀ c, b ≠ c → entriesOf p (t.bay c).list = entriesOf p (s.bay c).list :=
    fun c ne => by rw [others c ne]
  have h0 := same .b0
  have h1 := same .b1
  have h2 := same .b2
  have h3 := same .b3
  have h4 := same .b4
  have h5 := same .b5
  simp only [State.inUse_eq, BayId.all, List.map_cons, List.map_nil, List.sum_cons, List.sum_nil]
  cases b <;> simp only [ne_eq, reduceCtorEq, not_false_eq_true, forall_const] at h0 h1 h2 h3 h4 h5 <;> omega

/-- Where the lists are as they were, the entries in use change by those outside them. -/
theorem State.inUse_outside (lists : ∀ c, (t.bay c).list = (s.bay c).list) (p : Pool) :
    t.inUse p + s.usedOutside p = s.inUse p + t.usedOutside p := by
  have change := State.inUse_change (b := .b0) (fun c _ => lists c) p
  rw [lists] at change
  omega

/-- Where the lists hold as many entries, and as many are outside, as many are in use. -/
theorem State.inUse_congr {p : Pool} (lists : ∀ c, entriesOf p (t.bay c).list = entriesOf p (s.bay c).list)
    (outside : t.usedOutside p = s.usedOutside p) : t.inUse p = s.inUse p := by
  rw [State.inUse_eq, State.inUse_eq, outside]
  simp only [lists]

theorem State.usedOutside_congr (answers : t.answerOrder = s.answerOrder) (busy : t.mgmt.busy = s.mgmt.busy)
    (p : Pool) : t.usedOutside p = s.usedOutside p := by
  cases p <;> simp [State.usedOutside, State.mgmtInUse, answers, busy]

/-- Each entry that a purge takes off its list is an orphan, or is answered (R41). -/
theorem entriesOf_request_purge (st : AnswerStatus) (l : List Entry) :
    entriesOf .request l = l.countP Entry.isOrphan + (purgeAnswers st l).length := by
  induction l with
  | nil => rfl
  | cons e l ih =>
    rw [entriesOf_cons, ih, List.countP_cons]
    unfold purgeAnswers
    cases e with
    | store e => simp [Entry.pool, Entry.isOrphan]
    | request e =>
      by_cases orphan : e.state = .orphaned
      · simp [Entry.pool, Entry.isOrphan, orphan, Nat.add_right_comm]
      · simp [Entry.pool, Entry.isOrphan, orphan, Nat.add_assoc]

/-- An entry that stays at link loss stays of its pool (R44). -/
theorem Entry.afterLinkLoss_pool {e x : Entry} (h : e.afterLinkLoss = some x) : x.pool = e.pool := by
  cases e with
  | store e => cases h; rfl
  | request e =>
    unfold Entry.afterLinkLoss at h
    dsimp only at h
    split at h <;> cases h <;> rfl

/-! ## The ledger -/

@[simp] theorem Ledger.get_set (l : Ledger) (p q : Pool) (c : Credit) :
    (l.set p c).get q = if q = p then c else l.get q := by
  cases p <;> cases q <;> rfl

@[simp] theorem Ledger.get_returnOne (l : Ledger) (p q : Pool) :
    (l.returnOne p).get q =
      if q = p then ⟨(l.get p).outstanding, (l.get p).pendingReturn + 1⟩ else l.get q := by
  cases p <;> cases q <;> rfl

theorem Ledger.pendingTotal_returnOne (l : Ledger) (p : Pool) : (l.returnOne p).pendingTotal = l.pendingTotal + 1 := by
  cases p <;> simp only [Ledger.pendingTotal, Ledger.returnOne, Ledger.set, Ledger.get] <;> omega

theorem Ledger.pendingTotal_consume (l : Ledger) (p : Pool) : (l.consume p).pendingTotal = l.pendingTotal := by
  cases p <;> rfl

theorem GrantTimerLaw.consume {l : Ledger} (h : GrantTimerLaw l) (p : Pool) : GrantTimerLaw (l.consume p) := by
  unfold GrantTimerLaw at h ⊢
  rw [Ledger.pendingTotal_consume]
  cases p <;> exact h

/-- The first credit pending return starts the grant timer (R124). -/
theorem GrantTimerLaw.returnOne {l : Ledger} (h : GrantTimerLaw l) (p : Pool) : GrantTimerLaw (l.returnOne p) := by
  unfold GrantTimerLaw at h ⊢
  have timer : (l.returnOne p).grantTimer = (l.grantTimer || (l.pendingTotal == 0)) := rfl
  have expired : (l.returnOne p).grantExpired = l.grantExpired := by cases p <;> rfl
  rw [Ledger.pendingTotal_returnOne, timer, expired, Bool.or_eq_true, beq_iff_eq]
  refine ⟨fun _ => Nat.succ_pos _, fun _ => ?_⟩
  by_cases none : l.pendingTotal = 0
  · exact .inl (.inr none)
  · exact (h.2 (Nat.pos_of_ne_zero none)).imp_left .inl

theorem State.freed_up (up : s.link.state = .up) (p : Pool) : s.freed p = s.returnCredit p := by
  simp [State.freed, State.isUp, up, State.returnCredit]

theorem State.freed_notUp (off : s.link.state ≠ .up) (p : Pool) : s.freed p = s := by
  simp [State.freed, State.isUp, off]

/-- One FREE entry returns the credit of a list that holds one store, or one orphan (R41, R120). -/
theorem PurgeCredits.ofFreed {p : Pool} {l : List Entry} (ledger : t.ledger = (s.freed p).ledger) (own : p ≠ .mgmt)
    (stores : l.countP Entry.isStore = if p = .store then 1 else 0)
    (orphans : l.countP Entry.isOrphan = if p = .request then 1 else 0) : PurgeCredits s t l := by
  unfold PurgeCredits
  rw [ledger, stores, orphans]
  refine ⟨fun off => by rw [State.freed_notUp off], fun up => ?_⟩
  rw [State.freed_up up]
  cases p
  case mgmt => exact absurd rfl own
  all_goals simp [State.returnCredit, Ledger.returnOne, Ledger.set, Ledger.get, beq_eq_decide]

/-- The end of an entry returns the credits that a purge of it alone returns (R41, R65). -/
theorem EntryEnded.credits {st : AnswerStatus} {e : Entry} (h : EntryEnded s t b st e) : PurgeCredits s t [e] := by
  cases e with
  | store x =>
    obtain ⟨_, ledger, _⟩ := h
    exact PurgeCredits.ofFreed ledger (by decide) rfl rfl
  | request x =>
    obtain ⟨_, orphan, other⟩ := h
    by_cases state : x.state = .orphaned
    · exact PurgeCredits.ofFreed (p := .request) (orphan state).2 (by decide) rfl (by simp [Entry.isOrphan, state])
    · unfold PurgeCredits
      rw [(other state).2]
      simp [Entry.isStore, Entry.isOrphan, state]

theorem PurgeCredits.grantTimerLaw {l : List Entry} (h : PurgeCredits s t l) (law : GrantTimerLaw s.ledger) :
    GrantTimerLaw t.ledger := by
  by_cases up : s.link.state = .up
  · obtain ⟨store, request, mgmt, timer, expired, _⟩ := h.2 up
    unfold GrantTimerLaw Ledger.pendingTotal at law ⊢
    rw [store, request, mgmt, timer, expired]
    simp only [Bool.or_eq_true, Bool.and_eq_true, decide_eq_true_eq]
    unfold Ledger.pendingTotal
    constructor
    · rintro ((running | more) | run)
      · have := law.1 (.inl running); omega
      · omega
      · have := law.1 (.inr run); omega
    · intro waiting
      by_cases before : 0 < s.ledger.store.pendingReturn + s.ledger.request.pendingReturn + s.ledger.mgmt.pendingReturn
      · exact (law.2 before).imp_left .inl
      · exact .inl (.inr ⟨by omega, by omega⟩)
  · rwa [h.1 up]

end

/-! ## The waiting notices -/

/-- A raise leaves no queue empty that was not (R134, R135). -/
theorem NoticeUnit.raise_waits {n : NoticeUnit} {e : EventId} {r : Option Reason} (h : (n.raise e r).queue = []) :
    n.queue = [] := by
  rw [NoticeUnit.raise_queue] at h
  split at h
  · exact absurd h (addToQueue_ne_nil _ _)
  · exact h

theorem NoticeUnit.enableOne_waits {n : NoticeUnit} {e : EventId} {on : Bool} (h : (n.enableOne e on).queue = []) :
    n.queue = [] := by
  unfold NoticeUnit.enableOne at h
  dsimp only at h
  split at h
  · simp only [NoticeUnit.announce_rest] at h
    exact absurd h (addToQueue_ne_nil _ _)
  · simpa using h

/-- What one operation leaves waiting, a fold of it leaves waiting. -/
theorem foldl_waits {α : Type} {f : NoticeUnit → α → NoticeUnit}
    (step : ∀ n x, (f n x).queue = [] → n.queue = []) (l : List α) (n : NoticeUnit)
    (h : (l.foldl f n).queue = []) : n.queue = [] := by
  induction l generalizing n with
  | nil => exact h
  | cons x l ih => exact step n x (ih (f n x) h)

/-! ## The arbiter -/

/-- A choice is made in UP with room in the replay list: the NOTICE, or by class order while no notice has waited too
long (R126, R127). -/
theorem State.arbiterChoice_some {s : State} {c : PacketClass} (h : s.arbiterChoice = some c) :
    s.link.state = .up ∧
      (c = .notice ∨ (s.starvation < Config.starvationLimit ∨ s.notice.queue = []) ∧ s.classOrder = some c) := by
  unfold State.arbiterChoice at h
  split at h
  next ready =>
    refine ⟨(by simpa [State.isUp] using ready : _ ∧ _).1, ?_⟩
    split at h
    next => injection h with h; exact .inl h.symm
    next guard =>
      refine .inr ⟨?_, h⟩
      by_cases waited : s.starvation < Config.starvationLimit
      · exact .inl waited
      · exact .inr (by simpa [Nat.le_of_not_lt waited] using guard)
  next => cases h

/-- A response is placed only while it is on offer (R126). -/
theorem State.arbiterChoice_mgmtResp {s : State} (h : s.arbiterChoice = some .mgmtResp) : s.mgmt.busy = true := by
  have order := ((State.arbiterChoice_some h).2.resolve_left (by decide)).2
  unfold State.classOrder at order
  split at order
  next => cases order
  next =>
    split at order
    next offered => exact (Bool.and_eq_true_iff.1 offered).1
    next =>
      split at order
      next => cases order
      next => split at order <;> cases order

/-- A placement of another class adds one to the count while a notice waits (R127). -/
theorem State.countStarvation_eq (s : State) :
    s.countStarvation = s.setStarvation (if s.notice.queue.isEmpty then s.starvation else s.starvation + 1) := by
  unfold State.countStarvation
  split <;> rfl

@[simp] theorem State.place_countStarvation (s : State) (p : UpPacket) :
    (s.place p).countStarvation.starvation = s.countStarvation.starvation := by
  simp [State.countStarvation_eq]

@[simp] theorem State.place_linkState (s : State) (p : UpPacket) : (s.place p).link.state = s.link.state := rfl

@[simp] theorem Mgmt.responsePlaced_busy (m : Mgmt) (n : LinkSeq) : (m.responsePlaced n).busy = false := by
  unfold Mgmt.responsePlaced
  split <;> rfl

/-! ## What keeps the books -/

/-- From one state to the other the balance of every pool is kept in UP, and with the link not UP the ledger is, and no
more entries are in use; the link stays UP, or not UP. -/
structure CreditsKept (s t : State) : Prop where
  link : t.link.state = .up ↔ s.link.state = .up
  busy : t.mgmt.busy = s.mgmt.busy
  balance : s.link.state = .up → ∀ p, t.balance p = s.balance p
  closed : s.link.state ≠ .up → t.ledger = s.ledger ∧ ∀ p, t.inUse p ≤ s.inUse p
  timer : GrantTimerLaw s.ledger → GrantTimerLaw t.ledger

/-- The credits are kept, the management context and the starvation count are as they were, and the notice queue has not
become empty. -/
structure BooksKept (s t : State) : Prop extends CreditsKept s t where
  mgmt : t.mgmt = s.mgmt
  starvation : t.starvation = s.starvation
  notices : t.notice.queue = [] → s.notice.queue = []

theorem CreditsKept.trans {s t u : State} (h : CreditsKept s t) (k : CreditsKept t u) : CreditsKept s u where
  link := k.link.trans h.link
  busy := k.busy.trans h.busy
  balance up p := (k.balance (h.link.2 up) p).trans (h.balance up p)
  closed off := by
    obtain ⟨ledger, used⟩ := h.closed off
    obtain ⟨ledger', used'⟩ := k.closed (mt h.link.1 off)
    exact ⟨ledger'.trans ledger, fun p => (used' p).trans (used p)⟩
  timer := k.timer ∘ h.timer

theorem BooksKept.trans {s t u : State} (h : BooksKept s t) (k : BooksKept t u) : BooksKept s u where
  toCreditsKept := h.toCreditsKept.trans k.toCreditsKept
  mgmt := k.mgmt.trans h.mgmt
  starvation := k.starvation.trans h.starvation
  notices := h.notices ∘ k.notices

section
variable {s t : State} {b : BayId}

/-- The ledger, the answers and the number of entries in every list are as they were. -/
theorem CreditsKept.same (lists : ∀ p c, entriesOf p (t.bay c).list = entriesOf p (s.bay c).list)
    (link : t.link.state = .up ↔ s.link.state = .up := by simp) (busy : t.mgmt.busy = s.mgmt.busy := by simp)
    (ledger : t.ledger = s.ledger := by simp) (answers : t.answerOrder = s.answerOrder := by simp) :
    CreditsKept s t := by
  have inUse : ∀ p, t.inUse p = s.inUse p :=
    fun p => State.inUse_congr (lists p) (State.usedOutside_congr answers busy p)
  refine ⟨link, busy, fun _ p => ?_, fun _ => ⟨ledger, fun p => (inUse p).le⟩, fun h => ledger ▸ h⟩
  unfold State.balance
  rw [inUse, ledger]

theorem BooksKept.same (lists : ∀ p c, entriesOf p (t.bay c).list = entriesOf p (s.bay c).list)
    (link : t.link.state = .up ↔ s.link.state = .up := by simp) (mgmt : t.mgmt = s.mgmt := by simp)
    (ledger : t.ledger = s.ledger := by simp) (answers : t.answerOrder = s.answerOrder := by simp)
    (starvation : t.starvation = s.starvation := by simp)
    (notices : t.notice.queue = [] → s.notice.queue = [] := by simp) : BooksKept s t :=
  ⟨CreditsKept.same lists link (by rw [mgmt]) ledger answers, mgmt, starvation, notices⟩

theorem BooksKept.refl (s : State) : BooksKept s s := BooksKept.same (fun _ _ => rfl)

/-- Entries leave a list and are answered, dropped or freed: their credits are returned, or go over to their answers
(R41, R65, R120). -/
theorem BooksKept.settled {l kept : List Entry} (st : AnswerStatus)
    (others : ∀ c, b ≠ c → (t.bay c).list = (s.bay c).list) (list : (t.bay b).list = kept)
    (all : (s.bay b).list.Perm (kept ++ l)) (answers : t.answerOrder = s.answerOrder ++ purgeAnswers st l)
    (credits : PurgeCredits s t l) (notices : t.notice.queue = [] → s.notice.queue = [])
    (link : t.link = s.link := by simp) (mgmt : t.mgmt = s.mgmt := by simp)
    (starvation : t.starvation = s.starvation := by simp) : BooksKept s t := by
  have entries : ∀ p, entriesOf p (s.bay b).list = entriesOf p (t.bay b).list + entriesOf p l := fun p => by
    rw [list, ← entriesOf_append]
    exact all.countP_eq _
  have change := State.inUse_change (t := t) others
  have store := change .store
  have request := change .request
  have context := change .mgmt
  have settled := entriesOf_request_purge st l
  rw [entries] at store request context
  simp only [State.usedOutside, answers, List.length_append, State.mgmtInUse, mgmt] at store request context
  refine ⟨⟨by rw [link], by rw [mgmt], fun up p => ?_, fun off => ⟨credits.1 off, fun p => ?_⟩,
    credits.grantTimerLaw⟩, mgmt, starvation, notices⟩
  · obtain ⟨freedStores, freedRequests, freedMgmt, _⟩ := credits.2 up
    have stores := entriesOf_store l
    have none := entriesOf_mgmt l
    cases p <;> simp only [State.balance, Ledger.get, freedStores, freedRequests, freedMgmt] <;> omega
  · cases p <;> omega

/-! ## The primitive operations -/

theorem BooksKept.setBay {x : Bay} (list : x.list = (s.bay b).list) : BooksKept s (s.setBay b x) :=
  BooksKept.same (fun p c => by rw [State.setBay_bay]; split <;> simp_all)

theorem BooksKept.updLife (f : Lifecycle → Lifecycle) : BooksKept s (s.updLife b f) := BooksKept.setBay rfl

theorem BooksKept.updEngine (f : Engine → Engine) : BooksKept s (s.updEngine b f) := BooksKept.setBay rfl

theorem BooksKept.setPgood (level : Bool) : BooksKept s (s.setPgood b level) := BooksKept.setBay rfl

theorem BooksKept.setWindows (x : WindowTable) : BooksKept s (s.setWindows x) := BooksKept.same (by simp)

theorem BooksKept.setNotice {n : NoticeUnit} (notices : n.queue = [] → s.notice.queue = []) :
    BooksKept s (s.setNotice n) :=
  BooksKept.same (by simp) (notices := notices)

theorem BooksKept.raise (e : EventId) (r : Option Reason) : BooksKept s (s.raise e r) :=
  BooksKept.setNotice NoticeUnit.raise_waits

theorem BooksKept.setLink {l : LinkUnit} (link : l.state = .up ↔ s.link.state = .up) : BooksKept s (s.setLink l) :=
  BooksKept.same (by simp) link

theorem BooksKept.setPending (x : List Instr) : BooksKept s (s.setPending x) := BooksKept.same (by simp)

theorem BooksKept.overrun : BooksKept s s.overrun := by
  unfold State.overrun
  exact (BooksKept.setLink (by simp)).trans (BooksKept.raise _ _)

theorem BooksKept.setBus (x : Bus) : BooksKept s (s.setBus x) := BooksKept.same (by simp)

theorem BooksKept.releaseBus : BooksKept s (s.releaseBus b) := BooksKept.same (by simp)

theorem BooksKept.stopEngine : BooksKept s (s.stopEngine b) := BooksKept.releaseBus.trans (BooksKept.updEngine _)

/-- A head that is changed, and stays of its pool. -/
theorem BooksKept.setHead {e head : Entry} {rest : List Entry} (list : (s.bay b).list = head :: rest)
    (pool : e.pool = head.pool) : BooksKept s (s.setList b (e :: rest)) := by
  refine BooksKept.same (fun p c => ?_)
  rw [State.setList_bay]
  split
  next own => subst own; simp [list, entriesOf, List.countP_cons, pool]
  next => rfl

theorem BooksKept.startRequest : BooksKept s (s.startRequest b) := by
  unfold State.startRequest
  split
  next => exact BooksKept.refl s
  next head rest list =>
    split
    next => exact BooksKept.refl s
    next =>
      split
      next => exact (BooksKept.setHead list (by cases head <;> rfl)).trans (BooksKept.updEngine _)
      next => exact BooksKept.refl s

/-- The head of a list ends (R37, R65). -/
theorem BooksKept.endHead (st : AnswerStatus) : BooksKept s (s.endHead b st) := by
  unfold State.endHead
  split
  next => exact BooksKept.refl s
  next e rest list =>
    have ended := s.settleEntry_spec b st e
    refine BooksKept.settled (b := b) (l := [e]) (kept := rest) st (fun c ne => by simp [ne]) (by simp)
      (by rw [list]; exact (List.perm_append_singleton e rest).symm) (s.settleEntry_answerOrder b st e)
      (ended.credits.congr rfl rfl rfl) ?_
    show (s.settleEntry b st e).notice.queue = [] → s.notice.queue = []
    cases e with
    | store e =>
      obtain ⟨_, _, ok, notOk⟩ := ended
      by_cases good : st = .ok
      · rw [ok good]; exact id
      · rw [notOk good]; exact NoticeUnit.raise_waits
    | request e => rw [ended.1]; exact id

/-- Entries behind the head, or all entries, are taken off their list (R41, R42). -/
theorem BooksKept.settleEntries {st : AnswerStatus} (notOk : st ≠ .ok) {kept l : List Entry}
    (list : (s.bay b).list = kept ++ l) : BooksKept s ((s.settleEntries b st l).setList b kept) := by
  obtain ⟨credits, answers, notice⟩ := State.settleEntries_spec b st notOk l s
  refine BooksKept.settled (b := b) (l := l) (kept := kept) st (fun c ne => by simp [ne]) (by simp)
    (by rw [list]) answers (credits.congr rfl rfl rfl) ?_
  show (s.settleEntries b st l).notice.queue = [] → s.notice.queue = []
  rw [notice]
  exact foldl_waits (fun _ _ => NoticeUnit.raise_waits) _ _

theorem BooksKept.purge {st : AnswerStatus} (notOk : st ≠ .ok) : BooksKept s (s.purge b st) :=
  BooksKept.settleEntries notOk rfl

theorem BooksKept.purgeBehindHead {st : AnswerStatus} (notOk : st ≠ .ok) : BooksKept s (s.purgeBehindHead b st) := by
  unfold State.purgeBehindHead
  split
  next => exact BooksKept.refl s
  next list => exact BooksKept.settleEntries notOk list

/-! ## Leaving service -/

theorem BooksKept.enterFaulted (r : FaultReason) : BooksKept s (s.enterFaulted b r) :=
  ((BooksKept.stopEngine.trans (BooksKept.purge (by decide))).trans (BooksKept.updLife _)).trans (BooksKept.raise _ _)

theorem BooksKept.removalWindowClear : BooksKept s (s.removalWindowClear b) := BooksKept.same (by simp)

theorem BooksKept.removeModule : BooksKept s (s.removeModule b) :=
  ((((BooksKept.stopEngine.trans (BooksKept.purge (by decide))).trans BooksKept.removalWindowClear).trans
    (BooksKept.updLife _)).trans (BooksKept.raise _ _)).trans (BooksKept.setBay (Bay.detect_rest _).2.1)

theorem BooksKept.takeRemoval : BooksKept s (s.takeRemoval b) := by
  unfold State.takeRemoval
  split
  next => exact BooksKept.removeModule
  next => exact BooksKept.refl s

theorem BooksKept.pgoodLost : BooksKept s ((s.setPgood b false).enterFaulted b .powerFail) :=
  (BooksKept.setPgood false).trans (BooksKept.enterFaulted _)

theorem BooksKept.takePgoodLoss : BooksKept s (s.takePgoodLoss b) := by
  unfold State.takePgoodLoss
  split
  next => exact BooksKept.pgoodLost
  next => exact BooksKept.setPgood false

theorem BooksKept.completeQuiesce : BooksKept s (s.completeQuiesce b) :=
  (BooksKept.updLife _).trans (BooksKept.raise _ _)

theorem BooksKept.takeQuiesceCompletion : BooksKept s (s.takeQuiesceCompletion b) := by
  unfold State.takeQuiesceCompletion
  split
  next => exact BooksKept.completeQuiesce
  next => exact BooksKept.refl s

theorem BooksKept.completeIfEmpty : BooksKept s (s.completeIfEmpty b) := by
  unfold State.completeIfEmpty
  split
  next => exact BooksKept.completeQuiesce
  next => exact BooksKept.refl s

theorem BooksKept.quiesceAtOnce : BooksKept s (s.quiesceAtOnce b) :=
  (BooksKept.stopEngine.trans (BooksKept.updLife _)).trans (BooksKept.raise _ _)

theorem BooksKept.abandon : BooksKept s (s.abandon b) := by
  unfold State.abandon
  split
  next => exact (BooksKept.updEngine _).trans (BooksKept.purgeBehindHead (by decide))
  next => exact BooksKept.stopEngine.trans (BooksKept.purge (by decide))

theorem BooksKept.enterQuiescing (mode : QuiesceMode) : BooksKept s (s.enterQuiescing b mode) := by
  unfold State.enterQuiescing
  cases mode with
  | drain => exact (BooksKept.updLife _).trans BooksKept.completeIfEmpty
  | abandon => exact ((BooksKept.updLife _).trans BooksKept.abandon).trans BooksKept.completeIfEmpty

theorem BooksKept.convertDrain : BooksKept s (s.convertDrain b) :=
  ((BooksKept.updLife _).trans BooksKept.abandon).trans BooksKept.completeIfEmpty

theorem BooksKept.reportUnresponsive : BooksKept s (s.reportUnresponsive b) := by
  unfold State.reportUnresponsive
  split
  next => exact BooksKept.enterFaulted _
  next => exact BooksKept.refl s

theorem BooksKept.overtake (m : Meeting) : BooksKept s (s.overtake b m) := by
  cases m
  case removal => exact BooksKept.takeRemoval
  all_goals exact BooksKept.refl s

/-! ## Identification, the profile read and the cycles -/

theorem BooksKept.identify (c : ModuleClass) : BooksKept s (s.identify b c) := by
  unfold State.identify
  dsimp only
  split
  next => exact (BooksKept.updLife _).trans (BooksKept.enterFaulted _)
  next =>
    split
    next => exact (BooksKept.updLife _).trans (BooksKept.setBay rfl)
    next => exact (BooksKept.updLife _).trans (BooksKept.updLife _)

theorem BooksKept.takeMrdy : BooksKept s (s.takeMrdy b) := by
  unfold State.takeMrdy State.startProfileRead
  exact (BooksKept.updLife _).trans (BooksKept.updEngine _)

theorem BooksKept.enterReady (p : ProfileSummary) : BooksKept s (s.enterReady b p) :=
  ((BooksKept.updLife _).trans (BooksKept.updEngine _)).trans (BooksKept.raise _ _)

theorem BooksKept.profileOutcome (bytes : Option (List Byte)) : BooksKept s (s.profileOutcome b bytes) := by
  unfold State.profileOutcome
  dsimp only
  split
  next =>
    split
    next p _ => exact (BooksKept.updEngine _).trans (BooksKept.enterReady p)
    next => exact (BooksKept.updEngine _).trans (BooksKept.enterFaulted _)
  next => exact BooksKept.updEngine _

theorem BooksKept.profileByte (x : Byte) : BooksKept s (s.profileByte b x) := by
  unfold State.profileByte
  dsimp only
  split
  next => exact (BooksKept.updEngine _).trans (BooksKept.profileOutcome _)
  next => exact (BooksKept.updEngine _).trans (BooksKept.updEngine _)

theorem BooksKept.grantBus : BooksKept s (s.grantBus b) := by
  unfold State.grantBus
  split
  next => exact BooksKept.refl s
  next => exact (BooksKept.updEngine _).trans (BooksKept.setBus _)

theorem BooksKept.finishRequest (st : AnswerStatus) : BooksKept s (s.finishRequest b st) :=
  (BooksKept.endHead st).trans (BooksKept.updEngine _)

theorem BooksKept.endRequest (st : AnswerStatus) : BooksKept s (s.endRequest b st) :=
  (BooksKept.finishRequest st).trans BooksKept.startRequest

theorem BooksKept.requestCycleDone (c : Cycle) (lanes : BitVec 16) : BooksKept s (s.requestCycleDone b c lanes) := by
  unfold State.requestCycleDone
  split
  next => exact BooksKept.updEngine _
  next head rest list =>
    have advanced : BooksKept s (s.setList b (head.advanced c.bytes (c.readBytes lanes) :: rest)) :=
      BooksKept.setHead list (by cases head <;> rfl)
    dsimp only
    split
    next => exact advanced.trans (BooksKept.endRequest _)
    next =>
      split
      next => exact advanced.trans (BooksKept.endRequest _)
      next => exact advanced.trans (BooksKept.updEngine _)

theorem BooksKept.endCycle (c : Cycle) (error : Bool) (lanes : BitVec 16) :
    BooksKept s (s.endCycle b c error lanes) := by
  refine (BooksKept.releaseBus (b := b)).trans ?_
  unfold State.endCycle
  dsimp only
  split
  next => exact BooksKept.updEngine _
  next =>
    split
    next => exact BooksKept.profileOutcome _
    next => exact BooksKept.profileByte _
  next =>
    split
    next => exact BooksKept.endRequest _
    next => exact BooksKept.requestCycleDone c lanes

end

end Sys2Proof.Machine

/-! SUPPORT. What a command does to the books of the bridge: it keeps them, or one of a few operations changes them. A
law that each of these operations keeps is kept by every step. -/

namespace Sys2Proof.Machine

/-! ## The management commands -/

@[simp] theorem State.refuse_after (s : State) (status : MgmtStatus) : (s.refuse status).after = s := rfl
@[simp] theorem State.done_after (s : State) : s.done.after = s := rfl
@[simp] theorem State.doneWith_after (s : State) (results : List Byte) : (s.doneWith results).after = s := rfl

/-- The effect of EVENT_CLEAR on the Notice Unit and on the starvation count (R136, R139). -/
def State.clearEvents (s : State) (source : Source) (kinds : BitVec 8) : State :=
  (s.setNotice (s.notice.clearKinds source kinds)).setStarvation
    (starvationAfterClear s.starvation s.notice.queue (s.notice.clearKinds source kinds).queue)

/-- The effect of BRIDGE_RESET on the management context (R173). -/
def State.pendReset (s : State) : State := s.setMgmt { s.mgmt with resetPending := true }

/-- What a management command can leave: a state with its books kept, with events cleared, or with a reset pending. -/
def CommandLeaves (s t : State) : Prop :=
  BooksKept s t ∨ (∃ source kinds, t = s.clearEvents source kinds) ∨ t = s.pendReset

theorem BooksKept.commandQuiesce (s : State) (o : List Byte) : BooksKept s (Machine.commandQuiesce o s).after := by
  unfold Machine.commandQuiesce
  split
  next => exact BooksKept.refl s
  next b mode _ =>
    split
    case h_9 => exact BooksKept.enterQuiescing mode
    case h_10 =>
      split
      next => exact BooksKept.convertDrain
      next => exact BooksKept.refl s
    case h_1 | h_2 | h_3 | h_11 => exact BooksKept.refl s
    all_goals exact BooksKept.quiesceAtOnce

theorem BooksKept.commandPowerOn (s : State) (o : List Byte) : BooksKept s (Machine.commandPowerOn o s).after := by
  unfold Machine.commandPowerOn
  split
  next => exact BooksKept.refl s
  next =>
    split
    case h_4 | h_5 =>
      split
      next => exact BooksKept.setBay rfl
      next => exact BooksKept.refl s
    all_goals exact BooksKept.refl s

theorem BooksKept.commandBayRestart (s : State) (o : List Byte) :
    BooksKept s (Machine.commandBayRestart o s).after := by
  unfold Machine.commandBayRestart
  split
  next => exact BooksKept.refl s
  next =>
    split
    case h_1 | h_2 => exact BooksKept.setBay rfl
    all_goals exact BooksKept.refl s

theorem BooksKept.commandWindowWrite (s : State) (o : List Byte) :
    BooksKept s (Machine.commandWindowWrite o s).after := by
  unfold Machine.commandWindowWrite
  split
  next => exact BooksKept.refl s
  next =>
    split
    next => exact BooksKept.refl s
    next => exact BooksKept.setWindows _

theorem BooksKept.commandCountersRead (s : State) (o : List Byte) :
    BooksKept s (Machine.commandCountersRead o s).after := by
  unfold Machine.commandCountersRead
  split
  next => exact BooksKept.refl s
  next clear _ =>
    cases clear with
    | false => exact BooksKept.refl s
    | true => exact BooksKept.setLink Iff.rfl

/-- EVENT_CLEAR may leave the queue empty, and BRIDGE_RESET makes a reset pending; the others keep the books. -/
theorem commandByCode_leaves (s : State) (code : Byte) (o : List Byte) :
    CommandLeaves s (commandByCode code o s).after := by
  have unchanged : CommandLeaves s s := .inl (BooksKept.refl s)
  apply commandByCode_induction (P := fun r => CommandLeaves s r.after) s o
  case refuse => exact fun _ => unchanged
  case quiesce => exact .inl (BooksKept.commandQuiesce s o)
  case powerOn => exact .inl (BooksKept.commandPowerOn s o)
  case bayRestart => exact .inl (BooksKept.commandBayRestart s o)
  case windowWrite => exact .inl (BooksKept.commandWindowWrite s o)
  case countersRead => exact .inl (BooksKept.commandCountersRead s o)
  case bayPolicy =>
    unfold commandBayPolicy
    split
    next => exact unchanged
    next b policy _ => exact .inl (BooksKept.updLife (b := b) (fun l => { l with policy := policy }))
  case eventEnable =>
    unfold commandEventEnable
    split
    next => exact unchanged
    next source kinds _ =>
      exact .inl (BooksKept.setNotice (foldl_waits (fun _ _ => NoticeUnit.enableOne_waits) _ _))
  case eventClear =>
    unfold commandEventClear
    split
    next => exact unchanged
    next source kinds _ => exact .inr (.inl ⟨source, kinds, rfl⟩)
  case eventInject =>
    unfold commandEventInject
    split
    next => exact unchanged
    next => exact .inl (BooksKept.raise _ _)
  case bridgeReset =>
    unfold commandBridgeReset
    split
    next => exact unchanged
    next => exact .inr (.inr rfl)
  case windowClear =>
    unfold commandWindowClear
    split
    next => exact unchanged
    next => exact .inl (BooksKept.setWindows _)
  case windowClearBay =>
    unfold commandWindowClearBay
    split
    next => exact unchanged
    next => exact .inl (BooksKept.setWindows _)
  -- what remains reads the state and leaves it
  all_goals
    simp only [commandIdentify, commandWindowRead, commandBayStatus, commandEventRead]
    split <;> exact unchanged

/-! ## The operations that change the books -/

/-- A law that is kept where the books are, and by every operation that changes them: the resets, the entry to UP and
the departure, the four outcomes of a packet that has a credit, the grant timer and the four placements. -/
structure KeptByOperations (law : State → Prop) : Prop where
  books : ∀ {s t}, BooksKept s t → law s → law t
  reset : ∀ s epoch straps, law (State.resetAll s epoch straps)
  enterUp : ∀ {s}, s.link.state = .training → law s → law s.enterUp
  departUp : ∀ {s}, s.link.state = .up → s.mgmt.resetPending = false → law s → law s.departUp
  returned : ∀ {s u p}, s.HasCredit p → BooksKept (s.consumed p) u → law s → law (u.returnCredit p)
  refused : ∀ {s u}, s.HasCredit .request → BooksKept (s.consumed .request) u → law s →
    ∀ e st, law (u.refuseRequest e st)
  appended : ∀ {s u : State} {e : Entry}, s.HasCredit e.pool → BooksKept (s.consumed e.pool) u → law s →
    ∀ b, law (u.setList b ((u.bay b).list ++ [e]))
  accepted : ∀ {s}, s.HasCredit .mgmt → law s →
    ∀ seq code o, law ((s.consumed .mgmt).acceptMgmt seq (commandByCode code o))
  grantTimer : ∀ {s}, s.ledger.grantTimer = true → law s → law (s.setLedger s.ledger.timerExpired)
  placeGrant : ∀ {s}, s.arbiterChoice = some .grant → law s → law s.placeGrantNow
  placeResponse : ∀ {s r}, s.arbiterChoice = some .mgmtResp → s.mgmt.last = some r → law s →
    law (s.placeResponseNow r)
  placeAnswer : ∀ {s e rest}, s.arbiterChoice = some .answer → s.answerOrder = e :: rest → law s →
    law (s.placeAnswerNow e rest)
  placeNotice : ∀ {s r rest}, s.arbiterChoice = some .notice → s.notice.queue = r :: rest → law s →
    law (s.placeNoticeNow r rest)

section
variable {law : State → Prop} {s u : State} {b : BayId}

/-! ## The link -/

theorem KeptByOperations.leaveUp (k : KeptByOperations law) (up : s.link.state = .up) (h : law s) :
    law s.leaveUp := by
  unfold State.leaveUp
  split
  next => exact k.reset _ _ _
  next noReset => exact k.departUp up (by simpa using noReset) h

theorem KeptByOperations.exhaustion (k : KeptByOperations law) (up : s.link.state = .up) (h : law s) :
    law (s.setLink s.link.countExhaustion).leaveUp :=
  k.leaveUp up (k.books (BooksKept.setLink Iff.rfl) h)

theorem KeptByOperations.enterUpIfTrained (k : KeptByOperations law) (h : law s) : law s.enterUpIfTrained := by
  unfold State.enterUpIfTrained
  split
  next c => exact k.enterUp c.1 h
  next => exact h

theorem LinkUnit.enterDown_ne_up {l : LinkUnit} : l.enterDown.state ≠ .up := by
  simp [LinkUnit.enterDown]

theorem LinkUnit.enterTraining_ne_up {l : LinkUnit} : l.enterTraining.state ≠ .up := by
  simp [LinkUnit.enterTraining, LinkUnit.sendTrain]

/-- Between DOWN and TRAINING the books are kept. -/
theorem BooksKept.moveOffline {l : LinkUnit} (off : s.link.state ≠ .up) (stays : l.state ≠ .up) :
    BooksKept s (s.setLink l) :=
  BooksKept.setLink (iff_of_false stays off)

theorem KeptByOperations.takeAck (k : KeptByOperations law) (n : LinkSeq) (h : law s) : law (s.takeAck n) := by
  unfold State.takeAck
  have active : law (s.setLink s.link.activity) := k.books (BooksKept.setLink Iff.rfl) h
  dsimp only
  split
  next =>
    split
    next => exact k.reset _ _ _
    next => exact k.books (BooksKept.setLink Iff.rfl) active
  next => exact active

/-! ## Intake -/

/-- The credit check: nothing, an overrun, or the rest of intake behind a consumed credit (R147, R148). -/
theorem KeptByOperations.withCredit (k : KeptByOperations law) (h : law s) (p : Pool) {next : State → State}
    (pass : s.HasCredit p → law (next (s.consumed p))) : law (s.withCredit p next) := by
  by_cases up : s.link.state = .up
  · by_cases none : (s.ledger.get p).outstanding = 0
    · rw [State.withCredit_overrun up none]
      exact k.books BooksKept.overrun h
    · have credit : s.HasCredit p := ⟨up, Nat.pos_of_ne_zero none⟩
      rw [State.withCredit_pass credit]
      exact pass credit
  · rw [State.withCredit_notUp up]
    exact h

/-- A packet discarded with its credit returned (R149, R151). -/
theorem KeptByOperations.discard (k : KeptByOperations law) {p : Pool} (credit : s.HasCredit p) (h : law s)
    (r : Reason) : law ((s.consumed p).discard p r) :=
  k.books (BooksKept.raise _ _) (k.returned credit (BooksKept.refl _) h)

/-- A STORE dropped with its credit returned (R156). -/
theorem KeptByOperations.dropAtIntake (k : KeptByOperations law) (credit : s.HasCredit .store)
    (kept : BooksKept (s.consumed .store) u) (h : law s) (b : BayId) (st : AnswerStatus) :
    law (u.dropAtIntake b st) :=
  k.books (BooksKept.raise _ _) (k.returned credit kept h)

/-- An entry is appended, meets what it meets, and is started (R36, R47, R51). -/
theorem KeptByOperations.append (k : KeptByOperations law) {e : Entry} (credit : s.HasCredit e.pool)
    (kept : BooksKept (s.consumed e.pool) u) (h : law s) (b : BayId) (m : Meeting) : law (u.append b e m) := by
  have appended := k.appended credit kept h b
  refine k.books BooksKept.startRequest ?_
  exact State.takeAfterAppend_induction (P := law) _ m appended
    (fun training => k.books (BooksKept.moveOffline (by rw [training]; decide) LinkUnit.enterDown_ne_up) appended)
    (fun up => k.leaveUp up appended) (fun _ _ _ => k.books (BooksKept.setLink Iff.rfl) appended)
    (fun up => k.exhaustion up appended)

theorem KeptByOperations.routeRequest (k : KeptByOperations law) (credit : s.HasCredit .request) (h : law s)
    (kind : RequestKind) (f : RequestFields) (m : Meeting) : law ((s.consumed .request).routeRequest kind f m) := by
  unfold State.routeRequest
  split
  next => exact k.refused credit (BooksKept.refl _) h _ _
  next w _ =>
    have kept : BooksKept (s.consumed .request) ((s.consumed .request).overtake w.bay m) := BooksKept.overtake m
    dsimp only
    split
    next => exact k.refused credit kept h _ _
    next =>
      split
      next => exact k.refused credit kept h _ _
      next => exact k.append (e := .request _) credit kept h _ _

theorem KeptByOperations.intakeRequest (k : KeptByOperations law) (h : law s) (kind : RequestKind)
    (fields : Option RequestFields) (m : Meeting) : law (s.intakeRequest kind fields m) := by
  refine k.withCredit h .request (fun credit => ?_)
  split
  next => exact k.discard credit h _
  next f =>
    split
    next => exact k.discard credit h _
    next =>
      split
      next => exact k.discard credit h _
      next => exact k.routeRequest credit h kind f m

theorem KeptByOperations.routeStore (k : KeptByOperations law) (credit : s.HasCredit .store) (h : law s)
    (f : StoreFields) (m : Meeting) : law ((s.consumed .store).routeStore f m) := by
  unfold State.routeStore
  split
  next => exact k.books (BooksKept.raise _ _) (k.returned credit (BooksKept.refl _) h)
  next w _ =>
    have kept : BooksKept (s.consumed .store) ((s.consumed .store).overtake w.bay m) := BooksKept.overtake m
    dsimp only
    split
    next => exact k.dropAtIntake credit kept h _ _
    next =>
      split
      next => exact k.dropAtIntake credit kept h _ _
      next => exact k.append (e := .store _) credit kept h _ _

theorem KeptByOperations.intakeStore (k : KeptByOperations law) (h : law s) (fields : Option StoreFields)
    (m : Meeting) : law (s.intakeStore fields m) := by
  refine k.withCredit h .store (fun credit => ?_)
  split
  next => exact k.discard credit h _
  next f =>
    split
    next => exact k.discard credit h _
    next => exact k.routeStore credit h f m

theorem KeptByOperations.intakeMgmt (k : KeptByOperations law) (h : law s) (seq code : Byte) (o : List Byte) :
    law (s.intakeMgmt seq (commandByCode code o)) :=
  k.withCredit h .mgmt (fun credit => k.accepted credit h seq code o)

theorem KeptByOperations.intakeMgmtShort (k : KeptByOperations law) (h : law s) : law s.intakeMgmtShort :=
  k.withCredit h .mgmt (fun credit => k.discard credit h _)

theorem KeptByOperations.intake (k : KeptByOperations law) (h : law s) (p : Packet) (m : Meeting) :
    law (s.intake p m) := by
  cases p with
  | fetch f => exact k.intakeRequest h .fetch f m
  | store f => exact k.intakeStore h f m
  | portFetch f => exact k.intakeRequest h .portFetch f m
  | portStore f => exact k.intakeRequest h .portStore f m
  | mgmt seq code o => exact k.intakeMgmt h seq code o
  | mgmtShort => exact k.intakeMgmtShort h
  | unknownKind =>
    show law s.intakeUnknown
    unfold State.intakeUnknown
    split
    next => exact k.books (BooksKept.raise _ _) h
    next => exact h

/-! ## The access timer -/

/-- What is taken ahead of a report (R67, R104, R112; log 17). -/
theorem KeptByOperations.takeBefore (k : KeptByOperations law) (h : law s) (b : BayId) (before : BeforeReport) :
    law (s.takeBefore b before) := by
  cases before with
  | nothing => exact h
  | quiesceCompletion => exact k.books BooksKept.takeQuiesceCompletion h
  | removal => exact k.books BooksKept.takeRemoval h
  | pgoodLoss => exact k.books BooksKept.takePgoodLoss h
  | quiesce seq o => exact k.intakeMgmt h seq 0x23 o

/-- The end of a cycle by the access timer (R63, R65, R67). -/
theorem KeptByOperations.timeoutCycle (k : KeptByOperations law) (h : law s) (b : BayId) (before : BeforeReport) :
    law (s.timeoutCycle b before) := by
  have released : law (s.releaseBus b) := k.books BooksKept.releaseBus h
  unfold State.timeoutCycle
  dsimp only
  split
  next => exact k.books (BooksKept.updEngine _) released
  next => exact k.books (BooksKept.profileOutcome _) released
  next =>
    split
    next => exact k.books (BooksKept.endRequest _) released
    next =>
      unfold State.timeoutRequest
      split
      next =>
        have finished := k.books (BooksKept.finishRequest (b := b) .bayTimeout) released
        exact k.books BooksKept.reportUnresponsive (k.takeBefore finished b before)
      next => exact k.books (BooksKept.endRequest _) released

/-! ## Every command -/

theorem KeptByOperations.exec (k : KeptByOperations law) (i : Instr) (s t : State) (h : law s)
    (e : exec i s = .next t) : law t := by
  have sameLink : ∀ l : LinkUnit, l.state = s.link.state → law (s.setLink l) :=
    fun l same => k.books (BooksKept.setLink (by rw [same])) h
  apply exec_induction (P := law) s (h := e)
  case nothing => exact h
  case reset => exact k.reset s
  case deferredReset => exact fun _ _ => k.reset _ _ _
  case enterTraining =>
    exact fun down => k.books (BooksKept.moveOffline (by rw [down]; decide) LinkUnit.enterTraining_ne_up) h
  case enterDown =>
    exact fun training => k.books (BooksKept.moveOffline (by rw [training]; decide) LinkUnit.enterDown_ne_up) h
  case sendTrain => exact fun _ => k.enterUpIfTrained (sameLink _ rfl)
  case countTrain => exact fun _ _ => k.enterUpIfTrained (sameLink _ rfl)
  case accept => exact fun p m _ => k.intake (sameLink _ (by simp [LinkUnit.activity])) p m
  case ackReceived => exact fun n _ => k.takeAck n h
  case leaveUp => exact fun up => k.leaveUp up h
  case exhaustion => exact fun up => k.exhaustion up h
  case intake => exact k.intake h
  case busGrant => exact fun _ _ => k.books BooksKept.grantBus h
  case held => exact fun _ _ _ _ => k.books (BooksKept.updEngine _) h
  case endCycle => exact fun _ c _ error lanes _ => k.books (BooksKept.endCycle c error lanes) h
  case timeoutCycle => exact fun b _ before _ => k.timeoutCycle h b before
  case contactAsserted => exact fun b c => k.books (BooksKept.setBay ((s.bay b).contactAsserted_rest c).2) h
  case contactDeasserted => exact fun b c => k.books (BooksKept.setBay ((s.bay b).contactDeasserted_rest c).2) h
  case stablePresence => exact fun _ _ => k.books (BooksKept.raise _ _) (k.books (BooksKept.setBay rfl) h)
  case removal => exact fun _ _ _ => k.books BooksKept.removeModule h
  case identify => exact fun _ c _ => k.books (BooksKept.identify c) h
  case pgoodTaken => exact fun _ _ => k.books ((BooksKept.setPgood true).trans (BooksKept.updLife _)) h
  case pgoodLevel => exact fun _ level _ _ => k.books (BooksKept.setPgood level) h
  case powerGoodWait => exact fun _ _ => k.books (BooksKept.enterFaulted _) h
  case powerSettle => exact fun _ _ => k.books (BooksKept.updLife _) h
  case pgoodLost => exact fun _ _ => k.books BooksKept.pgoodLost h
  case released => exact fun _ _ => k.books (BooksKept.updLife _) h
  case releasedReady => exact fun _ _ => k.books ((BooksKept.updLife _).trans BooksKept.takeMrdy) h
  case mrdy => exact fun _ _ _ => k.books BooksKept.takeMrdy h
  case readyTimeout => exact fun _ _ => k.books (BooksKept.enterFaulted _) h
  case attention => exact fun _ _ => k.books (BooksKept.raise _ _) h
  case quiesced => exact fun _ _ _ => k.books BooksKept.completeQuiesce h
  case grantTimer => exact fun runs => k.grantTimer runs h
  case placeGrant => exact fun choice => k.placeGrant choice h
  case placeResponse => exact fun _ last choice => k.placeResponse choice last h
  case placeAnswer => exact fun _ _ order choice => k.placeAnswer choice order h
  case placeNotice => exact fun _ _ queue choice => k.placeNotice choice queue h
  -- what remains changes the link unit, and leaves it in its state
  all_goals
    intros
    exact sameLink _ (by simp [LinkUnit.countBad, LinkUnit.activity, LinkUnit.sendAck, LinkUnit.replayAgain,
      LinkUnit.sendIdle, LinkUnit.frameEnd])

/-- The queue of commands is not in the books. -/
theorem KeptByOperations.step (k : KeptByOperations law) {s t : State} (h : law s) (e : step s = .next t) : law t :=
  step_of_exec (fun _ _ h => k.books (BooksKept.setPending _) h) k.exec h e

end

end Sys2Proof.Machine

/-! PROOF. Every step keeps the law of the credit ledger, the bounds of the pools, and the law of the grant timer (R27,
R29, R119 to R125). -/

namespace Sys2Proof.Machine

/-! ## The law of the accounts -/

/-- The laws of the ledger, of the pools and of the grant timer together, pool by pool. -/
structure AccountLaw (s : State) : Prop where
  balanced : s.link.state = .up → ∀ p, s.balance p = p.size
  closed : s.link.state ≠ .up → ∀ p, s.ledger.get p = ⟨0, 0⟩
  fits : ∀ p, s.inUse p ≤ p.size
  idle : s.link.state ≠ .up → s.mgmt.busy = false
  timer : GrantTimerLaw s.ledger

/-- The pools are three. -/
theorem Pool.forall_iff {P : Pool → Prop} : (∀ p, P p) ↔ P .store ∧ P .request ∧ P .mgmt :=
  ⟨fun h => ⟨h .store, h .request, h .mgmt⟩, fun ⟨stores, requests, context⟩ p => by cases p <;> assumption⟩

theorem State.mgmtInUse_le (s : State) : s.mgmtInUse ≤ Config.mgmtPoolSize := by
  unfold State.mgmtInUse
  split <;> decide

theorem accountLaw_iff {s : State} : CreditLaw s ∧ PoolLaw s ∧ GrantTimerLaw s.ledger ↔ AccountLaw s := by
  constructor
  · rintro ⟨⟨balanced, closed⟩, ⟨stores, requests, idle⟩, timer⟩
    exact ⟨fun up => Pool.forall_iff.2 (balanced up), fun off => Pool.forall_iff.2 (closed off),
      Pool.forall_iff.2 ⟨stores, requests, s.mgmtInUse_le⟩, idle, timer⟩
  · rintro ⟨balanced, closed, fits, idle, timer⟩
    exact ⟨⟨fun up => Pool.forall_iff.1 (balanced up), fun off => Pool.forall_iff.1 (closed off)⟩,
      ⟨fits .store, fits .request, idle⟩, timer⟩

section
variable {s t u : State} {p : Pool}

/-- In UP the balances are the whole law, but for the timer. -/
theorem accountLaw_of_up (up : s.link.state = .up) (balanced : ∀ p, s.balance p = p.size)
    (timer : GrantTimerLaw s.ledger) : AccountLaw s where
  balanced _ := balanced
  closed off := absurd up off
  fits p := by
    have := balanced p
    unfold State.balance at this
    omega
  idle off := absurd up off
  timer := timer

/-- With the link not UP and an empty ledger the entries in use are to fit their pools (R119, R121, R122). -/
theorem accountLaw_of_notUp (off : s.link.state ≠ .up) (closed : s.ledger = Ledger.zeroed) (idle : s.mgmt.busy = false)
    (fits : ∀ p, s.inUse p ≤ p.size) : AccountLaw s where
  balanced up := absurd up off
  closed _ p := by rw [closed]; cases p <;> rfl
  fits := fits
  idle _ := idle
  timer := by rw [closed]; exact grantTimerLaw_reset

theorem AccountLaw.kept (h : AccountLaw s) (k : CreditsKept s t) : AccountLaw t := by
  by_cases up : s.link.state = .up
  · exact accountLaw_of_up (k.link.2 up) (fun p => (k.balance up p).trans (h.balanced up p)) (k.timer h.timer)
  · obtain ⟨ledger, used⟩ := k.closed up
    exact ⟨fun tUp => absurd (k.link.1 tUp) up, fun _ p => by rw [ledger]; exact h.closed up p,
      fun p => (used p).trans (h.fits p), fun _ => k.busy.trans (h.idle up), k.timer h.timer⟩

/-! ## A consumed credit -/

/-- The link is UP, and the balance of pool `p` is one short: a packet has consumed a credit, or an entry has become
FREE, and the ledger or the pools have yet to follow (R120). -/
structure Owes (p : Pool) (s : State) : Prop where
  up : s.link.state = .up
  short : ∀ q, s.balance q + (if q = p then 1 else 0) = q.size
  timer : GrantTimerLaw s.ledger

theorem Owes.kept (h : Owes p s) (k : CreditsKept s t) : Owes p t :=
  ⟨k.link.2 h.up, fun q => by rw [k.balance h.up]; exact h.short q, k.timer h.timer⟩

theorem AccountLaw.consumed (h : AccountLaw s) (credit : s.HasCredit p) : Owes p (s.consumed p) := by
  refine ⟨credit.1, fun q => ?_, h.timer.consume p⟩
  have inUse : (s.consumed p).inUse q = s.inUse q :=
    State.inUse_congr (fun _ => rfl) (State.usedOutside_congr rfl rfl q)
  rw [← h.balanced credit.1 q]
  unfold State.balance
  rw [inUse]
  simp only [State.consumed, State.setLedger_ledger, Ledger.get_set]
  split
  next own =>
    subst own
    have := credit.2
    dsimp only
    omega
  next => rfl

/-- An entry outside the lists becomes FREE, and its credit is yet to be returned (R33, R121). -/
theorem AccountLaw.entryFreed (h : AccountLaw s) (up : s.link.state = .up) (link : t.link.state = s.link.state)
    (ledger : t.ledger = s.ledger) (lists : ∀ c, (t.bay c).list = (s.bay c).list)
    (freed : ∀ q, t.usedOutside q + (if q = p then 1 else 0) = s.usedOutside q) : Owes p t := by
  refine ⟨link.trans up, fun q => ?_, ledger ▸ h.timer⟩
  have change := State.inUse_outside lists q
  have outside := freed q
  rw [← h.balanced up q]
  unfold State.balance
  rw [ledger]
  omega

/-- The credit is returned (R120). -/
theorem Owes.returnCredit (h : Owes p s) : AccountLaw (s.returnCredit p) := by
  refine accountLaw_of_up h.up (fun q => ?_) (h.timer.returnOne p)
  have inUse : (s.returnCredit p).inUse q = s.inUse q :=
    State.inUse_congr (fun _ => rfl) (State.usedOutside_congr rfl rfl q)
  rw [← h.short q]
  unfold State.balance
  rw [inUse]
  simp only [State.returnCredit, State.setLedger_ledger, Ledger.get_returnOne]
  split
  next own =>
    subst own
    rfl
  next => rfl

/-- The credit has gone over to an entry in use (R120). -/
theorem Owes.entryUsed (h : Owes p s) (link : t.link.state = s.link.state) (ledger : t.ledger = s.ledger)
    (used : ∀ q, t.inUse q = s.inUse q + if q = p then 1 else 0) : AccountLaw t := by
  refine accountLaw_of_up (link.trans h.up) (fun q => ?_) (ledger ▸ h.timer)
  rw [← h.short q]
  unfold State.balance
  rw [ledger, used q]
  omega

/-- A request refused holds its entry until its answer is placed (R31). -/
theorem Owes.refuseRequest (h : Owes .request s) (e : OpenEntry) (st : AnswerStatus) :
    AccountLaw (s.refuseRequest e st) := by
  refine h.entryUsed (by simp) (by simp) (fun q => ?_)
  have change := State.inUse_outside (s := s) (t := s.refuseRequest e st) (fun _ => by simp) q
  have outside : (s.refuseRequest e st).usedOutside q = s.usedOutside q + if q = .request then 1 else 0 := by
    cases q <;> simp [State.usedOutside, State.mgmtInUse]
    simp [State.refuseRequest, State.joinAnswers]
  omega

/-- An admitted request holds an entry of its pool (R27, R29, R36). -/
theorem Owes.appended {e : Entry} (h : Owes e.pool s) (b : BayId) :
    AccountLaw (s.setList b ((s.bay b).list ++ [e])) := by
  refine h.entryUsed (by simp) (by simp) (fun q => ?_)
  have change := State.inUse_change (s := s) (t := s.setList b ((s.bay b).list ++ [e])) (b := b)
    (fun c ne => by simp [ne]) q
  have outside := State.usedOutside_congr (s := s) (t := s.setList b ((s.bay b).list ++ [e])) rfl rfl q
  rw [State.setList_bay, if_pos rfl, entriesOf_append, entriesOf_cons, entriesOf_nil, outside] at change
  omega

/-- The MGMT entry is in use until its response is placed (R121). -/
theorem Owes.busy (h : Owes .mgmt s) {m : Mgmt} (busy : m.busy = true) : AccountLaw (s.setMgmt m) := by
  have free : s.mgmtInUse = 0 := by
    have short : s.mgmtInUse + _ + _ + 1 = 1 := h.short .mgmt
    omega
  refine h.entryUsed rfl rfl (fun q => ?_)
  cases q
  case mgmt =>
    show (s.setMgmt m).mgmtInUse = s.mgmtInUse + 1
    rw [free]
    simp [State.mgmtInUse, busy]
  all_goals rfl

/-- A management command returns no credit but those of the entries it purges (R120, R162). -/
theorem CommandLeaves.credits (h : CommandLeaves s t) : CreditsKept s t := by
  rcases h with kept | ⟨source, kinds, rfl⟩ | rfl
  · exact kept.toCreditsKept
  · exact CreditsKept.same (fun _ _ => rfl) Iff.rfl rfl rfl rfl
  · exact CreditsKept.same (fun _ _ => rfl) Iff.rfl rfl rfl rfl

theorem Owes.acceptMgmt (h : Owes .mgmt s) (seq code : Byte) (o : List Byte) :
    AccountLaw (s.acceptMgmt seq (commandByCode code o)) := by
  unfold State.acceptMgmt
  split
  next => exact h.busy rfl
  next => exact (h.kept (commandByCode_leaves s code o).credits).busy rfl

/-! ## The link -/

/-- After a reset every pool is empty (R49, R119). -/
theorem accountLaw_resetAll (s : State) (epoch : Byte) (straps : BitVec 4) : AccountLaw (s.resetAll epoch straps) := by
  have empty : ∀ c, ((s.resetAll epoch straps).bay c).list = (State.reset.bay c).list := by
    intro c
    rw [State.resetAll_bay, (s.bay c).afterReset_frame.2.1, reset_bay]
    rfl
  refine accountLaw_of_notUp (fun up => (by cases up)) rfl rfl (fun p => ?_)
  have inUse : (s.resetAll epoch straps).inUse p = State.reset.inUse p :=
    State.inUse_congr (fun c => by rw [empty]) (State.usedOutside_congr rfl rfl p)
  rw [inUse]
  exact (accountLaw_iff.1 ⟨creditLaw_reset, poolLaw_reset, grantTimerLaw_reset⟩).fits p

/-- The seed of the ledger gives every FREE entry as a credit pending return (R123). -/
theorem AccountLaw.enterUp (h : AccountLaw s) (training : s.link.state = .training) : AccountLaw s.enterUp := by
  have off : s.link.state ≠ .up := by rw [training]; decide
  refine accountLaw_of_up rfl (fun p => ?_) ?_
  · have inUse : s.enterUp.inUse p = s.inUse p :=
      State.inUse_congr (fun _ => rfl) (State.usedOutside_congr rfl rfl p)
    have fits := h.fits p
    unfold State.balance
    rw [inUse]
    cases p <;> exact Nat.add_sub_of_le fits
  · simp [GrantTimerLaw, State.enterUp, Ledger.seeded, Ledger.pendingTotal]

/-- Link loss frees entries and takes none (R44). -/
theorem entriesOf_afterLinkLoss (p : Pool) (l : List Entry) :
    entriesOf p (l.filterMap Entry.afterLinkLoss) ≤ entriesOf p l := by
  induction l with
  | nil => exact le_rfl
  | cons e l ih =>
    rw [List.filterMap_cons, entriesOf_cons]
    split
    next => omega
    next x kept =>
      rw [entriesOf_cons, Entry.afterLinkLoss_pool kept]
      omega

theorem AccountLaw.departUp (h : AccountLaw s) : AccountLaw s.departUp := by
  refine accountLaw_of_notUp LinkUnit.enterDown_ne_up rfl rfl (fun p => le_trans ?_ (h.fits p))
  have outside : s.departUp.usedOutside p = 0 := by
    cases p <;> rfl
  have lists : ∀ c ∈ BayId.all, entriesOf p (s.departUp.bay c).list ≤ entriesOf p (s.bay c).list := fun c _ => by
    rw [State.departUp_bay]
    exact entriesOf_afterLinkLoss p _
  rw [State.inUse_eq, State.inUse_eq, outside]
  exact Nat.add_le_add (List.sum_le_sum lists) (Nat.zero_le _)

/-! ## The grants and the placements -/

/-- The grant timer's expiry makes a GRANT wanted for what is pending return (R124). -/
theorem GrantTimerLaw.timerExpired {l : Ledger} (h : GrantTimerLaw l) : GrantTimerLaw l.timerExpired := by
  unfold GrantTimerLaw at h ⊢
  have total : l.timerExpired.pendingTotal = l.pendingTotal := rfl
  rw [total]
  simp only [Ledger.timerExpired, Bool.or_eq_true, decide_eq_true_eq, Bool.false_eq_true, false_or]
  exact ⟨fun h' => h'.elim (fun expired => h.1 (.inr expired)) id, .inr⟩

theorem AccountLaw.timerExpired (h : AccountLaw s) : AccountLaw (s.setLedger s.ledger.timerExpired) := by
  have credits : ∀ p, s.ledger.timerExpired.get p = s.ledger.get p := fun p => by cases p <;> rfl
  have inUse : ∀ p, (s.setLedger s.ledger.timerExpired).inUse p = s.inUse p :=
    fun p => State.inUse_congr (fun _ => rfl) (State.usedOutside_congr rfl rfl p)
  refine ⟨fun up p => ?_, fun off p => (credits p).trans (h.closed off p), fun p => (inUse p).trans_le (h.fits p),
    h.idle, h.timer.timerExpired⟩
  rw [← h.balanced up p]
  unfold State.balance
  rw [inUse, State.setLedger_ledger, credits]

/-- A GRANT makes the credits pending return outstanding (R125). -/
theorem AccountLaw.placeGrantNow (h : AccountLaw s) (up : s.link.state = .up) : AccountLaw s.placeGrantNow := by
  have ledger : s.placeGrantNow.ledger = s.ledger.granted := rfl
  have credits : ∀ p, s.ledger.granted.get p = (s.ledger.get p).granted := fun p => by cases p <;> rfl
  refine accountLaw_of_up ?_ (fun p => ?_) ?_
  · simpa [State.placeGrantNow] using up
  · have inUse : s.placeGrantNow.inUse p = s.inUse p :=
      State.inUse_congr (fun _ => by simp) (State.usedOutside_congr (by simp) (by simp) p)
    rw [← h.balanced up p]
    unfold State.balance
    rw [inUse, ledger, credits]
    exact (Nat.add_assoc _ _ _).symm
  · rw [ledger]
    simp [GrantTimerLaw, Ledger.granted, Ledger.pendingTotal, Credit.granted]

/-- The placement of the response frees the MGMT entry (R121, R163). -/
theorem AccountLaw.placeResponseNow (h : AccountLaw s) (up : s.link.state = .up) (busy : s.mgmt.busy = true)
    (r : MgmtResp) : AccountLaw (s.placeResponseNow r) := by
  have owes : Owes .mgmt (((s.place (.mgmtResp r)).countStarvation).setMgmt
      (s.mgmt.responsePlaced s.link.transmitNext)) := by
    refine h.entryFreed up (by simp) (by simp) (fun _ => by simp) (fun q => ?_)
    cases q <;> simp [State.usedOutside, State.mgmtInUse, busy]
  unfold State.placeResponseNow
  rw [State.freed_up owes.up]
  exact owes.returnCredit

/-- The placement of an ANSWER frees its entry (R33, R117). -/
theorem AccountLaw.placeAnswerNow (h : AccountLaw s) (up : s.link.state = .up) {e : OpenEntry}
    {rest : List OpenEntry} (order : s.answerOrder = e :: rest) : AccountLaw (s.placeAnswerNow e rest) := by
  have owes : Owes .request (((s.place e.packet).countStarvation).setAnswerOrder rest) := by
    refine h.entryFreed up (by simp) (by simp) (fun _ => by simp) (fun q => ?_)
    cases q <;> simp [State.usedOutside, State.mgmtInUse, order]
  unfold State.placeAnswerNow
  rw [State.freed_up owes.up]
  exact owes.returnCredit

theorem AccountLaw.placeNoticeNow (h : AccountLaw s) (r : NoticeRecord) (rest : List NoticeRecord) :
    AccountLaw (s.placeNoticeNow r rest) :=
  h.kept (CreditsKept.same (fun _ _ => by simp) (by simp [State.placeNoticeNow]))

end

/-! ## Every step -/

theorem accountLaw_keptByOperations : KeptByOperations AccountLaw where
  books k h := h.kept k.toCreditsKept
  reset := accountLaw_resetAll
  enterUp training h := h.enterUp training
  departUp _ _ h := h.departUp
  returned credit kept h := ((h.consumed credit).kept kept.toCreditsKept).returnCredit
  refused credit kept h := ((h.consumed credit).kept kept.toCreditsKept).refuseRequest
  appended credit kept h := ((h.consumed credit).kept kept.toCreditsKept).appended
  accepted credit h := (h.consumed credit).acceptMgmt
  grantTimer _ h := h.timerExpired
  placeGrant choice h := h.placeGrantNow (State.arbiterChoice_some choice).1
  placeResponse choice _ h :=
    h.placeResponseNow (State.arbiterChoice_some choice).1 (State.arbiterChoice_mgmtResp choice) _
  placeAnswer choice order h := h.placeAnswerNow (State.arbiterChoice_some choice).1 order
  placeNotice _ _ h := h.placeNoticeNow _ _

/-- Settles O54, by the balance of each pool. -/
theorem creditLawIsKept : Obligations.CreditLawIsKept := fun _ _ credit pool timer e =>
  accountLaw_iff.2 (accountLaw_keptByOperations.step (accountLaw_iff.1 ⟨credit, pool, timer⟩) e)

end Sys2Proof.Machine

/-! PROOF. Every step keeps the law of the starvation count (R127, R129, R136), and the law of the management context
(R161, R163, R174). -/

namespace Sys2Proof.Machine

section
variable {s t : State}

/-! ## The starvation count -/

/-- The count is as it was, the link stays UP or not UP, and no queue has become empty. -/
theorem StarvationLaw.same (h : StarvationLaw s) (link : t.link.state = .up ↔ s.link.state = .up)
    (starvation : t.starvation = s.starvation) (notices : t.notice.queue = [] → s.notice.queue = []) :
    StarvationLaw t := by
  obtain ⟨most, none⟩ := h
  unfold StarvationLaw
  rw [starvation]
  exact ⟨most, fun quiet => none (quiet.imp (mt link.2) notices)⟩

theorem StarvationLaw.kept (h : StarvationLaw s) (k : BooksKept s t) : StarvationLaw t :=
  h.same k.link k.starvation k.notices

theorem starvationLaw_of_zero (zero : s.starvation = 0) : StarvationLaw s :=
  ⟨by rw [zero]; exact Nat.zero_le _, fun _ => zero⟩

theorem StarvationLaw.consumed (h : StarvationLaw s) (p : Pool) : StarvationLaw (s.consumed p) :=
  h.same Iff.rfl rfl id

/-- A retraction that leaves the queue empty sets the count to 0 (R136). -/
theorem StarvationLaw.clearEvents (h : StarvationLaw s) (source : Source) (kinds : BitVec 8) :
    StarvationLaw (s.clearEvents source kinds) := by
  by_cases emptied : s.notice.queue ≠ [] ∧ (s.notice.clearKinds source kinds).queue = []
  · exact starvationLaw_of_zero (if_pos emptied)
  · exact h.same Iff.rfl (if_neg emptied) (fun empty => by_contra (fun waits => emptied ⟨waits, empty⟩))

theorem StarvationLaw.command (h : StarvationLaw s) (leaves : CommandLeaves s t) : StarvationLaw t := by
  rcases leaves with kept | ⟨source, kinds, rfl⟩ | rfl
  · exact h.kept kept
  · exact h.clearEvents source kinds
  · exact h.same Iff.rfl rfl id

theorem StarvationLaw.acceptMgmt (h : StarvationLaw s) (seq code : Byte) (o : List Byte) :
    StarvationLaw (s.acceptMgmt seq (commandByCode code o)) := by
  unfold State.acceptMgmt
  split
  next => exact h.same Iff.rfl rfl id
  next => exact (h.command (commandByCode_leaves s code o)).same Iff.rfl rfl id

/-- At the entry to UP the count is 0 (R129). -/
theorem StarvationLaw.enterUp (h : StarvationLaw s) (training : s.link.state = .training) :
    StarvationLaw s.enterUp := by
  obtain ⟨_, none⟩ := h
  refine starvationLaw_of_zero ?_
  rw [s.enterUp_frame.1]
  exact none (.inl (by rw [training]; decide))

/-- A placement of another class is made while the count is below 8, or while no notice waits (R127). -/
theorem StarvationLaw.placeOther (h : StarvationLaw s) {c : PacketClass} (choice : s.arbiterChoice = some c)
    (other : c ≠ .notice) (link : t.link.state = s.link.state)
    (count : t.starvation = s.countStarvation.starvation) (notice : t.notice = s.notice) : StarvationLaw t := by
  obtain ⟨up, chosen⟩ := State.arbiterChoice_some choice
  obtain ⟨guard, _⟩ := chosen.resolve_left other
  obtain ⟨most, none⟩ := h
  rw [State.countStarvation_eq] at count
  unfold StarvationLaw
  rw [count, link, notice]
  by_cases empty : s.notice.queue = []
  · simpa [empty] using ⟨most, none (.inr empty)⟩
  · have below := guard.resolve_right empty
    simpa [empty, up] using below

/-! ## The management context -/

/-- The management context is as it was, and the link stays UP, or not UP. -/
theorem MgmtLaw.same (h : MgmtLaw s) (link : t.link.state = .up ↔ s.link.state = .up) (mgmt : t.mgmt = s.mgmt) :
    MgmtLaw t := by
  unfold MgmtLaw
  rw [mgmt, link]
  exact h

theorem MgmtLaw.kept (h : MgmtLaw s) (k : BooksKept s t) : MgmtLaw t := h.same k.link k.mgmt

theorem MgmtLaw.consumed (h : MgmtLaw s) (p : Pool) : MgmtLaw (s.consumed p) := h.same Iff.rfl rfl

/-- A response on offer in UP (R162). -/
theorem MgmtLaw.offered (h : MgmtLaw s) (up : s.link.state = .up) {last : Option MgmtResp}
    (recorded : last.isSome = true) : MgmtLaw (s.setMgmt { s.mgmt with last := last, busy := true }) := by
  obtain ⟨_, pending, timer⟩ := h
  exact ⟨fun _ => ⟨recorded, up⟩, pending, timer⟩

/-- The response is on offer no longer (R163). -/
theorem MgmtLaw.withdrawn (h : MgmtLaw s) : MgmtLaw (s.setMgmt { s.mgmt with busy := false }) := by
  obtain ⟨_, rest⟩ := h
  exact ⟨fun offered => (by cases offered), rest⟩

/-- A reset becomes pending in UP (R173, R174). -/
theorem MgmtLaw.pendReset (h : MgmtLaw s) (up : s.link.state = .up) : MgmtLaw s.pendReset := by
  obtain ⟨busy, _, timer, _⟩ := h
  exact ⟨busy, fun _ => up, timer, fun _ => rfl⟩

theorem MgmtLaw.command (h : MgmtLaw s) (up : s.link.state = .up) (leaves : CommandLeaves s t) : MgmtLaw t := by
  rcases leaves with kept | ⟨source, kinds, rfl⟩ | rfl
  · exact h.kept kept
  · exact h.same Iff.rfl rfl
  · exact h.pendReset up

theorem MgmtLaw.acceptMgmt (h : MgmtLaw s) (up : s.link.state = .up) (seq code : Byte) (o : List Byte) :
    MgmtLaw (s.acceptMgmt seq (commandByCode code o)) := by
  unfold State.acceptMgmt
  split
  next repeated =>
    refine h.offered up (last := s.mgmt.last) ?_
    cases last : s.mgmt.last with
    | none => rw [last] at repeated; cases repeated
    | some r => rfl
  next =>
    have leaves := commandByCode_leaves s code o
    exact (h.command up leaves).offered (leaves.credits.link.2 up) rfl

/-- Out of UP nothing is on offer and no reset is pending, so the entry to UP finds neither (R161, R174). -/
theorem MgmtLaw.enterUp (h : MgmtLaw s) (training : s.link.state = .training) : MgmtLaw s.enterUp := by
  have off : s.link.state ≠ .up := by rw [training]; decide
  obtain ⟨busy, _, timer⟩ := h
  exact ⟨fun offered => absurd (busy offered).2 off, fun _ => rfl, timer⟩

theorem MgmtLaw.departUp (h : MgmtLaw s) (noReset : s.mgmt.resetPending = false) : MgmtLaw s.departUp := by
  obtain ⟨_, _, timer⟩ := h
  exact ⟨fun offered => (by cases offered), fun pending => absurd (noReset.symm.trans pending) (by decide), timer⟩

/-- The placement of the response ends its offer, and may start the reset timer of a pending reset (R163, R174). -/
theorem MgmtLaw.responsePlaced (h : MgmtLaw s) (n : LinkSeq) : MgmtLaw (s.setMgmt (s.mgmt.responsePlaced n)) := by
  unfold Mgmt.responsePlaced
  split
  next first =>
    obtain ⟨_, up, _⟩ := h
    have pending : s.mgmt.resetPending = true := (Bool.and_eq_true_iff.1 first).1
    exact ⟨fun offered => (by cases offered), up, iff_of_true rfl rfl, fun _ => pending⟩
  next => exact h.withdrawn

end

/-! ## Every step -/

theorem starvationLaw_keptByOperations : KeptByOperations StarvationLaw where
  books k h := h.kept k
  reset _ _ _ := starvationLaw_of_zero rfl
  enterUp training h := h.enterUp training
  departUp _ _ _ := starvationLaw_of_zero rfl
  returned _ kept h := ((h.consumed _).kept kept).same Iff.rfl rfl id
  refused _ kept h _ _ := ((h.consumed _).kept kept).same (by simp) (by simp) (by simp)
  appended _ kept h _ := ((h.consumed _).kept kept).same Iff.rfl rfl id
  accepted _ h := (h.consumed .mgmt).acceptMgmt
  grantTimer _ h := h.same Iff.rfl rfl id
  placeGrant choice h :=
    h.placeOther choice (by decide) (by simp [State.placeGrantNow]) (by simp [State.placeGrantNow]) (by simp)
  placeResponse choice _ h :=
    h.placeOther choice (by decide) (by simp [State.placeResponseNow]) (by simp [State.placeResponseNow]) (by simp)
  placeAnswer choice _ h :=
    h.placeOther choice (by decide) (by simp [State.placeAnswerNow]) (by simp [State.placeAnswerNow]) (by simp)
  placeNotice _ _ _ := starvationLaw_of_zero rfl

theorem mgmtLaw_keptByOperations : KeptByOperations MgmtLaw where
  books k h := h.kept k
  reset _ _ _ := mgmtLaw_reset.same Iff.rfl rfl
  enterUp training h := h.enterUp training
  departUp _ noReset h := h.departUp noReset
  returned _ kept h := ((h.consumed _).kept kept).same Iff.rfl rfl
  refused _ kept h _ _ := ((h.consumed _).kept kept).same (by simp) (by simp)
  appended _ kept h _ := ((h.consumed _).kept kept).same Iff.rfl rfl
  accepted credit h := (h.consumed .mgmt).acceptMgmt credit.1
  grantTimer _ h := h.same Iff.rfl rfl
  placeGrant _ h := h.same (by simp [State.placeGrantNow]) (by simp)
  placeResponse {s _} _ _ h :=
    (h.responsePlaced s.link.transmitNext).same (by simp [State.placeResponseNow]) (by simp [State.placeResponseNow])
  placeAnswer _ _ h := h.same (by simp [State.placeAnswerNow]) (by simp)
  placeNotice _ _ h := h.same (by simp [State.placeNoticeNow]) (by simp)

/-- Settles O59, law by law. -/
theorem starvationAndMgmtLawsAreKept : Obligations.StarvationAndMgmtLawsAreKept := fun _ _ =>
  ⟨starvationLaw_keptByOperations.step, mgmtLaw_keptByOperations.step⟩

end Sys2Proof.Machine

/-! PROOF. The placements of a GRANT, of the response on offer, and of the head ANSWER (R117, R121, R124 to R128, R163,
R174). -/

namespace Sys2Proof.Machine

section
variable {s : State}

/-! ## The choice by class order -/

theorem Ledger.grantWanted_of {l : Ledger} (waiting : 0 < l.pendingTotal)
    (due : 4 ≤ l.store.pendingReturn ∨ 4 ≤ l.request.pendingReturn ∨ 1 ≤ l.mgmt.pendingReturn ∨
      l.grantExpired = true ∨ l.seedDue = true) : l.grantWanted = true := by
  simpa [Ledger.grantWanted, waiting, or_assoc] using due

theorem State.classOrder_grant (wanted : s.ledger.grantWanted = true) : s.classOrder = some .grant := by
  simp [State.classOrder, wanted]

theorem State.classOrder_mgmtResp {r : MgmtResp} (unwanted : s.ledger.grantWanted = false)
    (busy : s.mgmt.busy = true) (last : s.mgmt.last = some r) : s.classOrder = some .mgmtResp := by
  simp [State.classOrder, unwanted, busy, last]

theorem State.classOrder_answer {e : OpenEntry} {rest : List OpenEntry} (unwanted : s.ledger.grantWanted = false)
    (idle : s.mgmt.busy = false) (order : s.answerOrder = e :: rest) : s.classOrder = some .answer := by
  simp [State.classOrder, unwanted, idle, order]

/-! ## The placements -/

theorem exec_placeGrant (choice : s.arbiterChoice = some .grant) : exec .placeGrant s = .next s.placeGrantNow := by
  simp [exec, execPlaceGrant, choice]

theorem exec_placeMgmtResp {r : MgmtResp} (choice : s.arbiterChoice = some .mgmtResp) (last : s.mgmt.last = some r) :
    exec .placeMgmtResp s = .next (s.placeResponseNow r) := by
  simp [exec, execPlaceMgmtResp, choice, last]

theorem exec_placeAnswer {e : OpenEntry} {rest : List OpenEntry} (choice : s.arbiterChoice = some .answer)
    (order : s.answerOrder = e :: rest) : exec .placeAnswer s = .next (s.placeAnswerNow e rest) := by
  simp [exec, execPlaceAnswer, choice, order]

/-- Where the arbiter chooses nothing, nothing is placed (R126). -/
theorem exec_place_none (choice : s.arbiterChoice = none) :
    exec .placeGrant s = .next s ∧ exec .placeMgmtResp s = .next s ∧ exec .placeAnswer s = .next s ∧
    exec .placeNotice s = .next s := by
  refine ⟨?_, ?_, ?_, ?_⟩
  · simp [exec, execPlaceGrant, choice]
  · cases last : s.mgmt.last <;> simp [exec, execPlaceMgmtResp, choice, last]
  · cases order : s.answerOrder <;> simp [exec, execPlaceAnswer, choice, order]
  · cases queue : s.notice.queue <;> simp [exec, execPlaceNotice, choice, queue]

theorem exec_grantTimerExpiry (running : s.ledger.grantTimer = true) :
    exec .grantTimerExpiry s = .next (s.setLedger s.ledger.timerExpired) := by
  simp [exec, execGrantTimerExpiry, running]

/-- The reset timer starts at the first placement of a response while a reset is pending (R174). -/
theorem Mgmt.responsePlaced_first {m : Mgmt} (pending : m.resetPending = true) (first : m.resetFrame = none)
    (n : LinkSeq) : m.responsePlaced n = { m with busy := false, resetTimer := true, resetFrame := some n } := by
  simp [Mgmt.responsePlaced, pending, first]

theorem Mgmt.responsePlaced_other {m : Mgmt} (other : m.resetPending = false ∨ m.resetFrame ≠ none) (n : LinkSeq) :
    m.responsePlaced n = { m with busy := false } := by
  unfold Mgmt.responsePlaced
  refine if_neg (fun first => ?_)
  obtain ⟨pending, frame⟩ := Bool.and_eq_true_iff.1 first
  rcases other with none | placed
  · rw [none] at pending
    cases pending
  · exact placed (Option.isNone_iff_eq_none.1 frame)

/-- A response is placed in UP: its credit is returned, and the context follows its placement (R121, R163). -/
theorem State.placeResponseNow_eq (up : s.link.state = .up) (r : MgmtResp) :
    s.placeResponseNow r =
      (((s.place (.mgmtResp r)).countStarvation).setMgmt (s.mgmt.responsePlaced s.link.transmitNext)).returnCredit
        .mgmt :=
  State.freed_up (by simpa using up) .mgmt

/-- An ANSWER is placed in UP: its entry leaves the answer order, and its credit is returned (R33, R117). -/
theorem State.placeAnswerNow_eq (up : s.link.state = .up) (e : OpenEntry) (rest : List OpenEntry) :
    s.placeAnswerNow e rest =
      (((s.place e.packet).countStarvation).setAnswerOrder rest).returnCredit .request :=
  State.freed_up (by simpa using up) .request

/-- The packet of an answered entry (R117). -/
theorem OpenEntry.packet_of {e : OpenEntry} {status : AnswerStatus} (answered : e.status = some status) :
    e.packet = .answer e.tag status (if status = .ok ∧ e.kind ≠ .portStore then e.data else []) := by
  simp [OpenEntry.packet, answered]

end

/-! ## The statements -/

/-- Settles O37, from the choice by class order and the GRANT's placement. -/
theorem grantsReturnCredits : Obligations.GrantsReturnCredits := by
  refine fun s => ⟨exec_grantTimerExpiry, fun up room guard waiting due => ?_, fun closed => ?_⟩
  · have choice : s.arbiterChoice = some .grant :=
      (State.arbiterChoice_classOrder up room guard).trans (State.classOrder_grant (Ledger.grantWanted_of waiting due))
    rw [exec_placeGrant choice]
    unfold State.placeGrantNow
    rw [State.countStarvation_eq]
    rfl
  · exact exec_place_none (State.arbiterChoice_none closed)

/-- Settles O38, from the choice by class order and the response's placement. -/
theorem responseIsPlaced : Obligations.ResponseIsPlaced := by
  intro s r up room guard unwanted busy last
  have choice : s.arbiterChoice = some .mgmtResp :=
    (State.arbiterChoice_classOrder up room guard).trans (State.classOrder_mgmtResp unwanted busy last)
  refine ⟨_, exec_placeMgmtResp choice last, ?_⟩
  rw [State.placeResponseNow_eq up, State.countStarvation_eq]
  exact ⟨rfl, rfl, rfl, fun pending first => Mgmt.responsePlaced_first pending first _,
    fun other => Mgmt.responsePlaced_other other _, rfl, rfl, rfl, rfl, rfl, rfl⟩

/-- Settles O39, from the choice by class order and the ANSWER's placement. -/
theorem answerIsPlaced : Obligations.AnswerIsPlaced := by
  intro s e rest status up room guard unwanted idle order answered
  have choice : s.arbiterChoice = some .answer :=
    (State.arbiterChoice_classOrder up room guard).trans (State.classOrder_answer unwanted idle order)
  refine ⟨_, exec_placeAnswer choice order, ?_⟩
  rw [State.placeAnswerNow_eq up, State.countStarvation_eq, OpenEntry.packet_of answered]
  exact ⟨rfl, rfl, rfl, rfl, rfl, rfl, rfl, rfl, rfl, rfl⟩

end Sys2Proof.Machine

/-! SUPPORT. The notice queue: kinds that join it and kinds taken out of it, one by one and together, and its law (R134,
R136, R138, R139, R144). -/

namespace Sys2Proof.Machine

/-! ## Sets of kinds -/

/-- A set of kinds with the kinds of some events added. -/
def addKinds (kinds : BitVec 8) (l : List EventId) : BitVec 8 := l.foldl (fun kinds e => kinds ||| e.mask) kinds

theorem addKinds_cons (kinds : BitVec 8) (e : EventId) (l : List EventId) :
    addKinds kinds (e :: l) = addKinds (kinds ||| e.mask) l := rfl

theorem Source.kindsWhere_eq (x : Source) (due : EventId → Bool) :
    x.kindsWhere due = addKinds 0#8 (x.events.filter due) := rfl

/-- A set of a source's own kinds is the set of the kinds that it holds. -/
theorem Source.kindsWhere_within {x : Source} {kinds : BitVec 8} (own : kinds &&& ~~~x.kinds = 0#8) :
    x.kindsWhere (fun e => e.within kinds) = kinds := by
  revert kinds
  cases x with
  | bay b => cases b <;> decide
  | bridge => decide

theorem Source.mem_all (x : Source) : x ∈ Source.all := by
  cases x with
  | bay b => cases b <;> decide
  | bridge => decide

theorem Source.all_nodup : Source.all.Nodup := by decide

/-- The sources ahead of one, and those behind it, are others. -/
theorem Source.ne_of_order {x : Source} {before after : List Source} (order : Source.all = before ++ x :: after) :
    (∀ y ∈ before, y ≠ x) ∧ ∀ y ∈ after, y ≠ x := by
  have distinct : (before ++ x :: after).Nodup := order ▸ Source.all_nodup
  obtain ⟨_, tail, apart⟩ := List.nodup_append'.1 distinct
  exact ⟨fun y mem same => apart mem (same ▸ List.mem_cons_self),
    fun y mem => ne_of_mem_of_not_mem mem (List.nodup_cons.1 tail).1⟩

theorem Source.source_of_mem_filter {x : Source} {due : EventId → Bool} :
    ∀ e ∈ x.events.filter due, e.source = x :=
  fun e mem => (x.mem_events e).1 (List.mem_filter.1 mem).1

/-! ## The records of the queue -/

/-- A notice record holds kinds, and kinds of its source alone (R136). -/
def NoticeRecord.Lawful (r : NoticeRecord) : Prop := r.kinds ≠ 0#8 ∧ r.kinds &&& ~~~r.source.kinds = 0#8

theorem queueLaw_iff {q : List NoticeRecord} :
    QueueLaw q ↔ (q.map NoticeRecord.source).Nodup ∧ ∀ r ∈ q, r.Lawful := Iff.rfl

theorem EventId.record_lawful (e : EventId) : NoticeRecord.Lawful { source := e.source, kinds := e.mask } :=
  ⟨e.mask_ne_zero, e.mask_own⟩

theorem NoticeRecord.Lawful.add {r : NoticeRecord} (h : r.Lawful) {e : EventId} (source : r.source = e.source) :
    NoticeRecord.Lawful { r with kinds := r.kinds ||| e.mask } := by
  obtain ⟨waits, own⟩ := h
  have mask : e.mask &&& ~~~r.source.kinds = 0#8 := source ▸ e.mask_own
  refine ⟨fun none => waits (BitVec.or_eq_zero_iff.1 none).1, ?_⟩
  calc (r.kinds ||| e.mask) &&& ~~~r.source.kinds
    _ = r.kinds &&& ~~~r.source.kinds ||| e.mask &&& ~~~r.source.kinds := BitVec.and_or_distrib_right
    _ = 0#8 := by rw [own, mask]; rfl

/-- A record with kinds taken out where it is of the source; it leaves with its last kind (R136, R139). -/
def NoticeRecord.without (source : Source) (kinds : BitVec 8) (r : NoticeRecord) : Option NoticeRecord :=
  if r.source = source then
    if r.kinds &&& ~~~kinds = 0#8 then none else some { r with kinds := r.kinds &&& ~~~kinds }
  else some r

theorem NoticeRecord.without_other {source : Source} {r : NoticeRecord} (other : r.source ≠ source)
    (kinds : BitVec 8) : r.without source kinds = some r := if_neg other

theorem NoticeRecord.without_source {source : Source} {kinds : BitVec 8} {r x : NoticeRecord}
    (stays : r.without source kinds = some x) : x.source = r.source := by
  unfold NoticeRecord.without at stays
  split at stays
  next =>
    split at stays
    next => cases stays
    next => cases stays; rfl
  next => cases stays; rfl

theorem NoticeRecord.Lawful.without {source : Source} {kinds : BitVec 8} {r x : NoticeRecord} (h : r.Lawful)
    (stays : r.without source kinds = some x) : x.Lawful := by
  unfold NoticeRecord.without at stays
  split at stays
  next =>
    split at stays
    next => cases stays
    next left =>
      cases stays
      refine ⟨left, ?_⟩
      calc r.kinds &&& ~~~kinds &&& ~~~r.source.kinds
        _ = r.kinds &&& ~~~r.source.kinds &&& ~~~kinds := by
          rw [BitVec.and_assoc, BitVec.and_comm (~~~kinds), BitVec.and_assoc]
        _ = 0#8 := by rw [h.2, BitVec.zero_and]
  next => cases stays; exact h

/-- No kinds are taken out of a lawful record. -/
theorem NoticeRecord.Lawful.without_nothing {r : NoticeRecord} (h : r.Lawful) (source : Source) :
    r.without source 0#8 = some r := by
  have all : r.kinds &&& ~~~0#8 = r.kinds := BitVec.and_allOnes
  unfold NoticeRecord.without
  rw [all, if_neg h.1, ite_self]

/-- Kinds taken out after others. -/
theorem NoticeRecord.without_without (source : Source) (j k : BitVec 8) (r : NoticeRecord) :
    (r.without source j).bind (NoticeRecord.without source k) = r.without source (j ||| k) := by
  have both : r.kinds &&& ~~~(j ||| k) = r.kinds &&& ~~~j &&& ~~~k := by rw [BitVec.not_or, BitVec.and_assoc]
  by_cases own : r.source = source
  · by_cases left : r.kinds &&& ~~~j = 0#8
    · simp [NoticeRecord.without, own, both, left]
    · simp [NoticeRecord.without, own, both, left]
  · simp [NoticeRecord.without_other own]

/-! ## Kinds that join -/

theorem mem_addToQueue {e : EventId} {q : List NoticeRecord} {x : NoticeRecord} (h : x ∈ addToQueue e q) :
    x ∈ q ∨ x = { source := e.source, kinds := e.mask } ∨
    ∃ r ∈ q, r.source = e.source ∧ x = { r with kinds := r.kinds ||| e.mask } := by
  induction q with
  | nil => exact .inr (.inl (List.mem_singleton.1 h))
  | cons r q ih =>
    unfold addToQueue at h
    split at h
    next own =>
      rcases List.mem_cons.1 h with rfl | h
      · exact .inr (.inr ⟨r, List.mem_cons_self, own, rfl⟩)
      · exact .inl (List.mem_cons_of_mem r h)
    next =>
      rcases List.mem_cons.1 h with rfl | h
      · exact .inl List.mem_cons_self
      · rcases ih h with old | new | ⟨y, mem, own, rfl⟩
        · exact .inl (List.mem_cons_of_mem r old)
        · exact .inr (.inl new)
        · exact .inr (.inr ⟨y, List.mem_cons_of_mem r mem, own, rfl⟩)

theorem QueueLaw.add {q : List NoticeRecord} (h : QueueLaw q) (e : EventId) : QueueLaw (addToQueue e q) := by
  obtain ⟨sources, lawful⟩ := queueLaw_iff.1 h
  refine queueLaw_iff.2 ⟨?_, fun x mem => ?_⟩
  · rw [addToQueue_sources]
    split
    next => exact sources
    next new => exact List.concat_eq_append ▸ sources.concat new
  · rcases mem_addToQueue mem with old | rfl | ⟨r, old, own, rfl⟩
    · exact lawful x old
    · exact e.record_lawful
    · exact (lawful r old).add own

/-- Behind records of other sources a kind joins the rest of the queue. -/
theorem addToQueue_append {e : EventId} {p : List NoticeRecord} (others : ∀ r ∈ p, r.source ≠ e.source)
    (q : List NoticeRecord) : addToQueue e (p ++ q) = p ++ addToQueue e q := by
  induction p with
  | nil => rfl
  | cons r p ih =>
    rw [List.cons_append, addToQueue, if_neg (others r List.mem_cons_self),
      ih (fun r mem => others r (List.mem_cons_of_mem _ mem))]
    rfl

/-- The kinds of several events join the queue, one after the other. -/
def joinQueue (l : List EventId) (q : List NoticeRecord) : List NoticeRecord :=
  l.foldl (fun q e => addToQueue e q) q

theorem joinQueue_cons (e : EventId) (l : List EventId) (q : List NoticeRecord) :
    joinQueue (e :: l) q = joinQueue l (addToQueue e q) := rfl

theorem joinQueue_append (k l : List EventId) (q : List NoticeRecord) :
    joinQueue (k ++ l) q = joinQueue l (joinQueue k q) := List.foldl_append

/-- The records of a queue with the kinds of their sources added. -/
def addedInPlace (kinds : Source → BitVec 8) (q : List NoticeRecord) : List NoticeRecord :=
  q.map (fun r => { r with kinds := r.kinds ||| kinds r.source })

/-- The new records for those sources of a list that have kinds to add and no record in the queue. -/
def addedAtTail (kinds : Source → BitVec 8) (q : List NoticeRecord) (l : List Source) : List NoticeRecord :=
  (l.filter (fun x => kinds x != 0#8 && q.all (fun r => r.source != x))).map
    (fun x => { source := x, kinds := kinds x })

theorem announcedQueue_eq (kinds : Source → BitVec 8) (q : List NoticeRecord) :
    announcedQueue kinds q = addedInPlace kinds q ++ addedAtTail kinds q Source.all := rfl

theorem addedInPlace_append (kinds : Source → BitVec 8) (p q : List NoticeRecord) :
    addedInPlace kinds (p ++ q) = addedInPlace kinds p ++ addedInPlace kinds q := List.map_append

theorem addedAtTail_append (kinds : Source → BitVec 8) (q : List NoticeRecord) (k l : List Source) :
    addedAtTail kinds q (k ++ l) = addedAtTail kinds q k ++ addedAtTail kinds q l := by
  simp [addedAtTail]

theorem addedInPlace_others (kinds : Source → BitVec 8) {q : List NoticeRecord} {x : Source}
    (others : ∀ r ∈ q, r.source ≠ x) : ∀ r ∈ addedInPlace kinds q, r.source ≠ x := by
  simpa [addedInPlace] using others

theorem mem_addedAtTail {kinds : Source → BitVec 8} {q : List NoticeRecord} {l : List Source} {r : NoticeRecord}
    (h : r ∈ addedAtTail kinds q l) : r.source ∈ l := by
  obtain ⟨x, mem, rfl⟩ := List.mem_map.1 h
  exact (List.mem_filter.1 mem).1

/-- A source with kinds and no record gets a new one. -/
theorem addedAtTail_new {kinds : Source → BitVec 8} {q : List NoticeRecord} {x : Source}
    (new : ∀ r ∈ q, r.source ≠ x) :
    addedAtTail kinds q [x] = if kinds x = 0#8 then [] else [{ source := x, kinds := kinds x }] := by
  have all : q.all (fun r => r.source != x) = true := by simpa using new
  by_cases none : kinds x = 0#8 <;> simp [addedAtTail, all, none]

/-- Only the kinds of the sources in the queue count for its records. -/
theorem addedInPlace_congr {j k : Source → BitVec 8} {q : List NoticeRecord}
    (same : ∀ r ∈ q, j r.source = k r.source) : addedInPlace j q = addedInPlace k q :=
  List.map_congr_left (fun r mem => by rw [same r mem])

/-- Only the kinds of the sources without a record count for the new records. -/
theorem addedAtTail_congr {j k : Source → BitVec 8} {q : List NoticeRecord} {l : List Source}
    (same : ∀ x ∈ l, (∀ r ∈ q, r.source ≠ x) → j x = k x) : addedAtTail j q l = addedAtTail k q l := by
  induction l with
  | nil => rfl
  | cons x l ih =>
    rw [← List.singleton_append, addedAtTail_append, addedAtTail_append,
      ih (fun y mem => same y (List.mem_cons_of_mem x mem))]
    by_cases new : ∀ r ∈ q, r.source ≠ x
    · rw [addedAtTail_new new, addedAtTail_new new, same x List.mem_cons_self new]
    · have old : q.all (fun r => r.source != x) = false := by
        simpa [List.all_eq_false] using new
      simp [addedAtTail, old]

/-- Sources without kinds to add get no record. -/
theorem addedAtTail_none {kinds : Source → BitVec 8} (q : List NoticeRecord) {l : List Source}
    (none : ∀ x ∈ l, kinds x = 0#8) : addedAtTail kinds q l = [] := by
  have filtered : l.filter (fun x => kinds x != 0#8 && q.all (fun r => r.source != x)) = [] :=
    List.filter_eq_nil_iff.2 (fun x mem => by simp [none x mem])
  unfold addedAtTail
  rw [filtered]
  rfl

theorem announcedQueue_nothing (q : List NoticeRecord) : announcedQueue (fun _ => 0#8) q = q := by
  rw [announcedQueue_eq, addedAtTail_none q (fun _ _ => rfl)]
  simp [addedInPlace]

section
variable {j k : Source → BitVec 8} {q : List NoticeRecord} {e : EventId} {before after : List Source}

/-- A kind of a source without a record in the queue joins the new record of its source, behind those of earlier
sources, or makes one. -/
theorem addToQueue_announcedQueue_new (added : k e.source = j e.source ||| e.mask)
    (others : ∀ x, x ≠ e.source → k x = j x) (order : Source.all = before ++ e.source :: after)
    (later : ∀ x ∈ after, j x = 0#8) (new : ∀ r ∈ q, r.source ≠ e.source) :
    addToQueue e (announcedQueue j q) = announcedQueue k q := by
  obtain ⟨notBefore, notAfter⟩ := Source.ne_of_order order
  have joined : k e.source ≠ 0#8 := fun none => e.mask_ne_zero (BitVec.or_eq_zero_iff.1 (added.symm.trans none)).2
  have tails : ∀ l : Source → BitVec 8, (∀ x ∈ after, l x = 0#8) → addedAtTail l q Source.all =
      addedAtTail l q before ++ if l e.source = 0#8 then [] else [{ source := e.source, kinds := l e.source }] :=
    fun l none => by
      rw [order, ← List.singleton_append, addedAtTail_append, addedAtTail_append, addedAtTail_none q none,
        addedAtTail_new new, List.append_nil]
  rw [announcedQueue_eq, announcedQueue_eq, tails j later,
    tails k (fun x mem => (others x (notAfter x mem)).trans (later x mem)), if_neg joined, added,
    addToQueue_append (addedInPlace_others j new), addToQueue_append (fun r mem => notBefore _ (mem_addedAtTail mem)),
    addedInPlace_congr (fun r mem => others _ (new r mem)),
    addedAtTail_congr (fun x mem _ => others x (notBefore x mem))]
  by_cases none : j e.source = 0#8 <;> simp [addToQueue, none]

/-- A kind of a source with a record in the queue joins it. -/
theorem addToQueue_announcedQueue_inPlace (added : k e.source = j e.source ||| e.mask)
    (others : ∀ x, x ≠ e.source → k x = j x) {p a : List NoticeRecord} {r : NoticeRecord}
    (source : r.source = e.source) (rest : ∀ y ∈ p ++ a, y.source ≠ e.source) :
    addToQueue e (announcedQueue j (p ++ r :: a)) = announcedQueue k (p ++ r :: a) := by
  have inP : ∀ y ∈ p, y.source ≠ e.source := fun y mem => rest y (List.mem_append_left a mem)
  have inA : ∀ y ∈ a, y.source ≠ e.source := fun y mem => rest y (List.mem_append_right p mem)
  have split : ∀ l : Source → BitVec 8, announcedQueue l (p ++ r :: a) = addedInPlace l p ++
      { r with kinds := r.kinds ||| l r.source } :: (addedInPlace l a ++ addedAtTail l (p ++ r :: a) Source.all) :=
    fun l => by
      rw [announcedQueue_eq, addedInPlace_append, List.append_assoc]
      rfl
  rw [split, split, addToQueue_present e _ { r with kinds := r.kinds ||| j r.source } _
      (addedInPlace_others j inP) source, source, added, BitVec.or_assoc,
    addedInPlace_congr (fun y mem => others _ (inP y mem)),
    addedInPlace_congr (fun y mem => others _ (inA y mem)),
    addedAtTail_congr (fun x _ absent => others x (fun same => absent r (by simp) (source.trans same.symm)))]

/-- A kind joins a queue with kinds added, where no later source has any to add: it is added with them. -/
theorem addToQueue_announcedQueue (sources : (q.map NoticeRecord.source).Nodup)
    (added : k e.source = j e.source ||| e.mask) (others : ∀ x, x ≠ e.source → k x = j x)
    (order : Source.all = before ++ e.source :: after) (later : ∀ x ∈ after, j x = 0#8) :
    addToQueue e (announcedQueue j q) = announcedQueue k q := by
  by_cases new : ∀ r ∈ q, r.source ≠ e.source
  · exact addToQueue_announcedQueue_new added others order later new
  · push Not at new
    obtain ⟨r, mem, source⟩ := new
    obtain ⟨p, a, rfl⟩ := List.append_of_mem mem
    rw [List.map_append, List.map_cons, List.nodup_middle, ← List.map_append] at sources
    exact addToQueue_announcedQueue_inPlace added others source (fun y mem same =>
      (List.nodup_cons.1 sources).1 (source.trans same.symm ▸ List.mem_map_of_mem mem))

/-- The events of one source join in a row: in its record, or in one new record (R136). -/
theorem joinQueue_announcedQueue (sources : (q.map NoticeRecord.source).Nodup) {x : Source}
    (order : Source.all = before ++ x :: after) {l : List EventId} (own : ∀ e ∈ l, e.source = x)
    (later : ∀ y ∈ after, j y = 0#8) (added : k x = addKinds (j x) l) (others : ∀ y, y ≠ x → k y = j y) :
    joinQueue l (announcedQueue j q) = announcedQueue k q := by
  induction l generalizing j with
  | nil =>
    have same : k = j := funext (fun y => by
      by_cases own : y = x
      · rw [own]; exact added
      · exact others y own)
    rw [same]
    rfl
  | cons e l ih =>
    obtain rfl := own e List.mem_cons_self
    have notAfter := (Source.ne_of_order order).2
    rw [joinQueue_cons, addToQueue_announcedQueue (k := Function.update j e.source (j e.source ||| e.mask)) sources
      (Function.update_self ..) (fun y ne => Function.update_of_ne ne ..) order later]
    refine ih (fun e mem => own e (List.mem_cons_of_mem _ mem)) (fun y mem => ?_) ?_ (fun y ne => ?_)
    · rw [Function.update_of_ne (notAfter y mem)]; exact later y mem
    · rw [Function.update_self]; exact added
    · rw [Function.update_of_ne ne]; exact others y ne

/-- The events of one source join a queue. -/
theorem joinQueue_source (sources : (q.map NoticeRecord.source).Nodup) (x : Source) (due : EventId → Bool) :
    joinQueue (x.events.filter due) q = announcedQueue (fun y => if y = x then x.kindsWhere due else 0#8) q := by
  obtain ⟨before, after, order⟩ := List.append_of_mem x.mem_all
  conv_lhs => rw [← announcedQueue_nothing q]
  exact joinQueue_announcedQueue sources order Source.source_of_mem_filter (fun _ _ => rfl)
    ((if_pos rfl).trans (x.kindsWhere_eq due)) (fun y ne => if_neg ne)

/-- The events of the sources from one on join a queue, source after source. -/
theorem joinQueue_sources (sources : (q.map NoticeRecord.source).Nodup) (due : EventId → Bool)
    (order : Source.all = before ++ after) (later : ∀ x ∈ after, j x = 0#8)
    (added : ∀ x ∈ after, k x = x.kindsWhere due) (others : ∀ x, x ∉ after → k x = j x) :
    joinQueue ((after.flatMap Source.events).filter due) (announcedQueue j q) = announcedQueue k q := by
  induction after generalizing before j with
  | nil => rw [funext (fun x => others x List.not_mem_nil)]; rfl
  | cons x after ih =>
    have notAfter := (Source.ne_of_order order).2
    have first : joinQueue (x.events.filter due) (announcedQueue j q) =
        announcedQueue (Function.update j x (x.kindsWhere due)) q := by
      refine joinQueue_announcedQueue sources order Source.source_of_mem_filter
        (fun y mem => later y (List.mem_cons_of_mem x mem)) ?_ (fun y ne => Function.update_of_ne ne ..)
      rw [Function.update_self, later x List.mem_cons_self, Source.kindsWhere_eq]
    rw [List.flatMap_cons, List.filter_append, joinQueue_append, first]
    refine ih (before := before ++ [x]) (by simpa using order) (fun y mem => ?_)
      (fun y mem => added y (List.mem_cons_of_mem x mem)) (fun y rest => ?_)
    · rw [Function.update_of_ne (notAfter y mem)]
      exact later y (List.mem_cons_of_mem x mem)
    · by_cases same : y = x
      · rw [same, Function.update_self]; exact added x List.mem_cons_self
      · rw [Function.update_of_ne same]; exact others y (by simp [same, rest])

/-- The events of all sources join a queue (R144). -/
theorem joinQueue_all (sources : (q.map NoticeRecord.source).Nodup) (due : EventId → Bool) :
    joinQueue (EventId.all.filter due) q = announcedQueue (fun x => x.kindsWhere due) q := by
  conv_lhs => rw [← announcedQueue_nothing q]
  exact joinQueue_sources (before := []) sources due rfl (fun _ _ => rfl) (fun _ _ => rfl)
    (fun x absent => absurd x.mem_all absent)

end

/-! ## Kinds taken out -/

/-- At most one record is of an event's source, so the retraction of its kind concerns each record alone. -/
theorem retractFromQueue_eq {q : List NoticeRecord} (sources : (q.map NoticeRecord.source).Nodup) (e : EventId) :
    retractFromQueue e q = q.filterMap (NoticeRecord.without e.source e.mask) := by
  induction q with
  | nil => rfl
  | cons r q ih =>
    obtain ⟨new, sources⟩ := List.nodup_cons.1 sources
    unfold retractFromQueue
    split
    next own =>
      have others : q.filterMap (NoticeRecord.without e.source e.mask) = q := by
        refine (List.filterMap_congr (fun x mem => ?_)).trans List.filterMap_some
        exact NoticeRecord.without_other (fun same : x.source = e.source =>
          new (same.trans own.symm ▸ List.mem_map_of_mem mem)) _
      rw [List.filterMap_cons, others]
      unfold NoticeRecord.without
      rw [if_pos own]
      by_cases last : r.kinds &&& ~~~e.mask = 0#8
      · rw [if_pos last, if_pos last]
      · rw [if_neg last, if_neg last]
    next other => rw [List.filterMap_cons, NoticeRecord.without_other other, ih sources]

theorem QueueLaw.without {q : List NoticeRecord} (h : QueueLaw q) (source : Source) (kinds : BitVec 8) :
    QueueLaw (q.filterMap (NoticeRecord.without source kinds)) := by
  obtain ⟨sources, lawful⟩ := queueLaw_iff.1 h
  refine queueLaw_iff.2 ⟨?_, fun x mem => ?_⟩
  · refine List.pairwise_map.2 (List.pairwise_filterMap.2 ((List.pairwise_map.1 sources).imp ?_))
    intro r y ne x stays z stays'
    rwa [NoticeRecord.without_source stays, NoticeRecord.without_source stays']
  · obtain ⟨r, mem, stays⟩ := List.mem_filterMap.1 mem
    exact (lawful r mem).without stays

theorem QueueLaw.retract {q : List NoticeRecord} (h : QueueLaw q) (e : EventId) : QueueLaw (retractFromQueue e q) := by
  rw [retractFromQueue_eq h.1]
  exact h.without _ _

/-- The kinds of several events of one source are taken out of a queue, one after the other. -/
theorem foldl_retract {q : List NoticeRecord} (h : QueueLaw q) {source : Source} {l : List EventId}
    (own : ∀ e ∈ l, e.source = source) (kinds : BitVec 8) :
    l.foldl (fun q e => retractFromQueue e q) (q.filterMap (NoticeRecord.without source kinds)) =
      q.filterMap (NoticeRecord.without source (addKinds kinds l)) := by
  induction l generalizing kinds with
  | nil => rfl
  | cons e l ih =>
    obtain rfl := own e List.mem_cons_self
    rw [List.foldl_cons, retractFromQueue_eq (h.without _ _).1, List.filterMap_filterMap,
      List.filterMap_congr (fun r _ => NoticeRecord.without_without e.source kinds e.mask r),
      ih (fun e mem => own e (List.mem_cons_of_mem _ mem)), addKinds_cons]

theorem QueueLaw.without_nothing {q : List NoticeRecord} (h : QueueLaw q) (source : Source) :
    q.filterMap (NoticeRecord.without source 0#8) = q :=
  (List.filterMap_congr (fun r mem => NoticeRecord.Lawful.without_nothing (h.2 r mem) source)).trans
    List.filterMap_some

end Sys2Proof.Machine

/-! SUPPORT. The operations of the Notice Unit on several events: the records and the queue that EVENT_ENABLE,
EVENT_CLEAR and the link leave (R138, R139, R143, R144), and the law of the Notice Unit under each operation. -/

namespace Sys2Proof.Machine

/-! ## The operations on one event -/

theorem NoticeUnit.enableOne_queue_eq (n : NoticeUnit) (e : EventId) (on : Bool) :
    (n.enableOne e on).queue =
      if on && !(n.record e).enable && (n.record e).flag && !(n.record e).announced then addToQueue e n.queue
      else n.queue := by
  unfold NoticeUnit.enableOne
  dsimp only
  split <;> simp

theorem NoticeUnit.announceIfDue_record (n : NoticeUnit) (e x : EventId) :
    (n.announceIfDue e).record x =
      if e = x then
        { n.record e with announced := (n.record e).announced || ((n.record e).flag && (n.record e).enable) }
      else n.record x := by
  unfold NoticeUnit.announceIfDue
  dsimp only
  split
  next due =>
    simp only [Bool.and_eq_true] at due
    obtain ⟨⟨set, enabled⟩, _⟩ := due
    rw [NoticeUnit.announce_record]
    simp [set, enabled]
  next notDue =>
    have kept : ((n.record e).announced || ((n.record e).flag && (n.record e).enable)) = (n.record e).announced := by
      cases announced : (n.record e).announced
      · simpa [announced] using notDue
      · rfl
    by_cases same : e = x
    · rw [if_pos same, kept, ← same]
    · rw [if_neg same]

theorem NoticeUnit.announceIfDue_queue (n : NoticeUnit) (e : EventId) :
    (n.announceIfDue e).queue =
      if (n.record e).flag && (n.record e).enable && !(n.record e).announced then addToQueue e n.queue
      else n.queue := by
  unfold NoticeUnit.announceIfDue
  dsimp only
  split <;> simp

@[simp] theorem NoticeUnit.announceIfDue_rest (n : NoticeUnit) (e : EventId) :
    (n.announceIfDue e).nextSeq = n.nextSeq ∧ (n.announceIfDue e).firstUp = n.firstUp := by
  unfold NoticeUnit.announceIfDue
  dsimp only
  split <;> simp

/-- The announced of one event is lost where its flag is set (R143). -/
def NoticeUnit.forgetOne (n : NoticeUnit) (e : EventId) : NoticeUnit :=
  if (n.record e).flag then n.setRecord e { n.record e with announced := false } else n

theorem NoticeUnit.forgetAnnounced_eq (n : NoticeUnit) :
    n.forgetAnnounced = EventId.all.foldl NoticeUnit.forgetOne n := rfl

theorem NoticeUnit.forgetOne_record (n : NoticeUnit) (e x : EventId) :
    (n.forgetOne e).record x =
      if e = x then { n.record e with announced := (n.record e).announced && !(n.record e).flag }
      else n.record x := by
  unfold NoticeUnit.forgetOne
  split
  next set => simp [set]
  next clear =>
    by_cases same : e = x
    · have kept : ((n.record e).announced && !(n.record e).flag) = (n.record e).announced := by simp [clear]
      rw [if_pos same, kept, ← same]
    · rw [if_neg same]

@[simp] theorem NoticeUnit.forgetOne_rest (n : NoticeUnit) (e : EventId) :
    (n.forgetOne e).queue = n.queue ∧ (n.forgetOne e).nextSeq = n.nextSeq ∧
    (n.forgetOne e).firstUp = n.firstUp := by
  unfold NoticeUnit.forgetOne
  split <;> simp

/-! ## The operations on several events -/

/-- An operation that changes one record by a rule, and announces the event where it is due, lets those of a list of
different events join the queue that are due at its start. -/
theorem fold_queue (f : NoticeUnit → EventId → NoticeUnit) (rule : EventId → EventRecord → EventRecord)
    (due : EventId → EventRecord → Bool)
    (record : ∀ n e x, (f n e).record x = if e = x then rule e (n.record e) else n.record x)
    (queue : ∀ n e, (f n e).queue = if due e (n.record e) then addToQueue e n.queue else n.queue)
    (l : List EventId) (nodup : l.Nodup) (n : NoticeUnit) :
    (l.foldl f n).queue = joinQueue (l.filter (fun e => due e (n.record e))) n.queue := by
  induction l generalizing n with
  | nil => rfl
  | cons e l ih =>
    obtain ⟨new, nodup⟩ := List.nodup_cons.1 nodup
    have rest : l.filter (fun x => due x ((f n e).record x)) = l.filter (fun x => due x (n.record x)) :=
      List.filter_congr (fun x mem => by rw [record, if_neg (ne_of_mem_of_not_mem mem new).symm])
    rw [List.foldl_cons, ih nodup, rest, queue, List.filter_cons]
    split <;> rfl

/-- The record of EVENT_ENABLE (R138). -/
def EventRecord.enabled (r : EventRecord) (on : Bool) : EventRecord :=
  { r with enable := on, announced := r.announced || (on && !r.enable && r.flag) }

theorem NoticeUnit.enableKinds_record (n : NoticeUnit) (source : Source) (kinds : BitVec 8) (x : EventId) :
    (n.enableKinds source kinds).record x =
      if x.source = source then (n.record x).enabled (x.within kinds) else n.record x := by
  unfold NoticeUnit.enableKinds
  rw [fold_record _ (fun e r => r.enabled (e.within kinds)) (fun n e x => n.enableOne_record e x _) _
    source.events_nodup]
  simp only [Source.mem_events]

/-- A kind of EVENT_ENABLE that is turned on, set and not announced (R138). -/
def NoticeUnit.dueAtEnable (n : NoticeUnit) (kinds : BitVec 8) (e : EventId) : Bool :=
  e.within kinds && !(n.record e).enable && (n.record e).flag && !(n.record e).announced

theorem NoticeUnit.enableKinds_queue (n : NoticeUnit) (source : Source) (kinds : BitVec 8) :
    (n.enableKinds source kinds).queue = joinQueue (source.events.filter (n.dueAtEnable kinds)) n.queue :=
  fold_queue _ (fun e r => r.enabled (e.within kinds))
    (fun e r => e.within kinds && !r.enable && r.flag && !r.announced) (fun n e x => n.enableOne_record e x _)
    (fun n e => n.enableOne_queue_eq e _) _ source.events_nodup n

theorem NoticeUnit.enableKinds_rest (n : NoticeUnit) (source : Source) (kinds : BitVec 8) :
    (n.enableKinds source kinds).nextSeq = n.nextSeq ∧ (n.enableKinds source kinds).firstUp = n.firstUp :=
  ⟨fold_keeps _ NoticeUnit.nextSeq (fun n e => (n.enableOne_rest e _).1) _ n,
    fold_keeps _ NoticeUnit.firstUp (fun n e => (n.enableOne_rest e _).2) _ n⟩

theorem NoticeUnit.clearKinds_record (n : NoticeUnit) (source : Source) (kinds : BitVec 8) (x : EventId) :
    (n.clearKinds source kinds).record x =
      if x.source = source ∧ x.within kinds = true then
        { n.record x with flag := false, count := 0, firstReason := none, announced := false }
      else n.record x := by
  unfold NoticeUnit.clearKinds
  rw [fold_record _ (fun _ r => { r with flag := false, count := 0, firstReason := none, announced := false })
    NoticeUnit.clearOne_record _ (source.events_nodup.filter _)]
  simp only [List.mem_filter, Source.mem_events]

/-- The kinds that EVENT_CLEAR names are taken out of the queue together (R139). -/
theorem NoticeUnit.clearKinds_queue (n : NoticeUnit) (law : QueueLaw n.queue) {source : Source} {kinds : BitVec 8}
    (own : kinds &&& ~~~source.kinds = 0#8) :
    (n.clearKinds source kinds).queue = n.queue.filterMap (NoticeRecord.without source kinds) := by
  calc (n.clearKinds source kinds).queue
    _ = (source.events.filter (fun e => e.within kinds)).foldl (fun q e => retractFromQueue e q) n.queue :=
      (List.foldl_hom NoticeUnit.queue (fun n e => (n.clearOne_rest e).1.symm)).symm
    _ = n.queue.filterMap
          (NoticeRecord.without source (addKinds 0#8 (source.events.filter (fun e => e.within kinds)))) := by
      rw [← foldl_retract law Source.source_of_mem_filter, law.without_nothing]
    _ = n.queue.filterMap (NoticeRecord.without source kinds) :=
      congrArg (fun k => n.queue.filterMap (NoticeRecord.without source k)) (Source.kindsWhere_within own)

theorem NoticeUnit.clearKinds_rest (n : NoticeUnit) (source : Source) (kinds : BitVec 8) :
    (n.clearKinds source kinds).nextSeq = n.nextSeq ∧ (n.clearKinds source kinds).firstUp = n.firstUp :=
  ⟨fold_keeps _ NoticeUnit.nextSeq (fun n e => (n.clearOne_rest e).2.1) _ n,
    fold_keeps _ NoticeUnit.firstUp (fun n e => (n.clearOne_rest e).2.2) _ n⟩

theorem NoticeUnit.forgetAnnounced_record (n : NoticeUnit) (x : EventId) :
    n.forgetAnnounced.record x = { n.record x with announced := (n.record x).announced && !(n.record x).flag } := by
  rw [NoticeUnit.forgetAnnounced_eq, fold_record _ (fun _ r => { r with announced := r.announced && !r.flag })
    NoticeUnit.forgetOne_record _ EventId.all_nodup, if_pos x.mem_all]

@[simp] theorem NoticeUnit.forgetAnnounced_rest (n : NoticeUnit) :
    n.forgetAnnounced.queue = n.queue ∧ n.forgetAnnounced.nextSeq = n.nextSeq ∧
    n.forgetAnnounced.firstUp = n.firstUp :=
  ⟨fold_keeps _ NoticeUnit.queue (fun n e => (n.forgetOne_rest e).1) _ n,
    fold_keeps _ NoticeUnit.nextSeq (fun n e => (n.forgetOne_rest e).2.1) _ n,
    fold_keeps _ NoticeUnit.firstUp (fun n e => (n.forgetOne_rest e).2.2) _ n⟩

/-- An event that is set and enabled, and not announced (R144). -/
def NoticeUnit.unannounced (n : NoticeUnit) (e : EventId) : Bool :=
  (n.record e).flag && (n.record e).enable && !(n.record e).announced

/-- The Notice Unit with every event announced that is set, enabled and not announced (R144, step 1). -/
def NoticeUnit.announceDue (n : NoticeUnit) : NoticeUnit := EventId.all.foldl NoticeUnit.announceIfDue n

theorem NoticeUnit.announceDue_record (n : NoticeUnit) (x : EventId) :
    n.announceDue.record x =
      { n.record x with announced := (n.record x).announced || ((n.record x).flag && (n.record x).enable) } := by
  unfold NoticeUnit.announceDue
  rw [fold_record _ (fun _ r => { r with announced := r.announced || (r.flag && r.enable) })
    NoticeUnit.announceIfDue_record _ EventId.all_nodup, if_pos x.mem_all]

theorem NoticeUnit.announceDue_queue (n : NoticeUnit) :
    n.announceDue.queue = joinQueue (EventId.all.filter n.unannounced) n.queue :=
  fold_queue _ (fun _ r => { r with announced := r.announced || (r.flag && r.enable) })
    (fun _ r => r.flag && r.enable && !r.announced) NoticeUnit.announceIfDue_record NoticeUnit.announceIfDue_queue _
    EventId.all_nodup n

theorem NoticeUnit.announceDue_rest (n : NoticeUnit) :
    n.announceDue.nextSeq = n.nextSeq ∧ n.announceDue.firstUp = n.firstUp :=
  ⟨fold_keeps _ NoticeUnit.nextSeq (fun n e => (n.announceIfDue_rest e).1) _ n,
    fold_keeps _ NoticeUnit.firstUp (fun n e => (n.announceIfDue_rest e).2) _ n⟩

theorem NoticeUnit.linkUp_eq (n : NoticeUnit) :
    n.linkUp = if n.firstUp then { n.announceDue with firstUp := false }
      else n.announceDue.raise (.bridge .linkRestored) none := by
  rw [← n.announceDue_rest.2]
  unfold NoticeUnit.linkUp NoticeUnit.announceDue
  rfl

/-! ## The law of the event records -/

/-- A set flag with its count (R134, R135). -/
theorem EventRecord.lawful_set {r : EventRecord} (set : r.flag = true) (some : 1 ≤ r.count) (most : r.count ≤ 255) :
    r.Lawful := by
  refine ⟨?_, most, fun clear => absurd (clear.symm.trans set) Bool.false_ne_true⟩
  rw [set]
  exact iff_of_false (by omega) (by decide)

theorem EventRecord.Lawful.counted {r : EventRecord} (h : r.Lawful) (set : r.flag = true) :
    EventRecord.Lawful { r with count := satSucc 255 r.count } := by
  obtain ⟨zero, most, _⟩ := h
  refine EventRecord.lawful_set set ?_ ?_ <;> simp only [satSucc] <;> split <;> omega

/-- Enable and announced may change, where a clear flag is not announced. -/
theorem EventRecord.Lawful.announcedAs {r : EventRecord} (h : r.Lawful) {announced : Bool} (enable : Bool)
    (clear : r.flag = false → announced = false) :
    EventRecord.Lawful { r with announced := announced, enable := enable } := by
  obtain ⟨zero, most, empty⟩ := h
  exact ⟨zero, most, fun flag => ⟨(empty flag).1, clear flag⟩⟩

theorem EventRecord.Lawful.unannounced {r : EventRecord} (h : r.Lawful) (clear : r.flag = false) :
    r.announced = false := by
  obtain ⟨_, _, empty⟩ := h
  exact (empty clear).2

theorem EventRecord.lawful_cleared (enable : Bool) :
    EventRecord.Lawful
      { flag := false, count := 0, firstReason := none, announced := false, enable := enable } :=
  ⟨iff_of_true rfl rfl, Nat.zero_le _, fun _ => ⟨rfl, rfl⟩⟩

/-! ## The law of the Notice Unit -/

section
variable {n : NoticeUnit}

theorem NoticeLaw.raise (h : NoticeLaw n) (e : EventId) (r : Option Reason) : NoticeLaw (n.raise e r) := by
  obtain ⟨records, queue⟩ := h
  refine ⟨fun x => ?_, ?_⟩
  · rw [NoticeUnit.raise_record]
    split
    next =>
      split
      next set => exact (records e).counted set
      next => exact EventRecord.lawful_set rfl le_rfl (Nat.le_add_left 1 254)
    next => exact records x
  · rw [NoticeUnit.raise_queue]
    split
    next => exact queue.add e
    next => exact queue

theorem NoticeLaw.enableOne (h : NoticeLaw n) (e : EventId) (on : Bool) : NoticeLaw (n.enableOne e on) := by
  obtain ⟨records, queue⟩ := h
  refine ⟨fun x => ?_, ?_⟩
  · rw [NoticeUnit.enableOne_record]
    split
    next => exact (records e).announcedAs on (fun clear => by simp [clear, (records e).unannounced clear])
    next => exact records x
  · rw [NoticeUnit.enableOne_queue_eq]
    split
    next => exact queue.add e
    next => exact queue

theorem NoticeLaw.enableKinds (h : NoticeLaw n) (source : Source) (kinds : BitVec 8) :
    NoticeLaw (n.enableKinds source kinds) :=
  List.foldlRecOn source.events _ h (fun _ kept e _ => kept.enableOne e _)

theorem NoticeLaw.clearOne (h : NoticeLaw n) (e : EventId) : NoticeLaw (n.clearOne e) := by
  obtain ⟨records, queue⟩ := h
  refine ⟨fun x => ?_, ?_⟩
  · rw [NoticeUnit.clearOne_record]
    split
    next => exact EventRecord.lawful_cleared _
    next => exact records x
  · rw [(n.clearOne_rest e).1]
    exact queue.retract e

theorem NoticeLaw.clearKinds (h : NoticeLaw n) (source : Source) (kinds : BitVec 8) :
    NoticeLaw (n.clearKinds source kinds) :=
  List.foldlRecOn _ _ h (fun _ kept e _ => kept.clearOne e)

theorem NoticeLaw.forgetAnnounced (h : NoticeLaw n) : NoticeLaw n.forgetAnnounced := by
  obtain ⟨records, queue⟩ := h
  refine ⟨fun x => ?_, ?_⟩
  · rw [NoticeUnit.forgetAnnounced_record]
    exact (records x).announcedAs _ (fun clear => by rw [(records x).unannounced clear, Bool.false_and])
  · rw [n.forgetAnnounced_rest.1]
    exact queue

theorem NoticeLaw.announceIfDue (h : NoticeLaw n) (e : EventId) : NoticeLaw (n.announceIfDue e) := by
  obtain ⟨records, queue⟩ := h
  refine ⟨fun x => ?_, ?_⟩
  · rw [NoticeUnit.announceIfDue_record]
    split
    next => exact (records e).announcedAs _ (fun clear => by simp [clear, (records e).unannounced clear])
    next => exact records x
  · rw [NoticeUnit.announceIfDue_queue]
    split
    next => exact queue.add e
    next => exact queue

theorem NoticeLaw.announceDue (h : NoticeLaw n) : NoticeLaw n.announceDue := by
  unfold NoticeUnit.announceDue
  exact List.foldlRecOn _ _ h (fun _ kept e _ => kept.announceIfDue e)

/-- The law says nothing of the first UP and of the notice sequence number. -/
theorem NoticeLaw.congr (h : NoticeLaw n) {m : NoticeUnit} (record : ∀ e, m.record e = n.record e)
    (queue : QueueLaw m.queue) : NoticeLaw m :=
  ⟨fun e => record e ▸ h.1 e, queue⟩

theorem NoticeLaw.withFirstUp (h : NoticeLaw n) (first : Bool) : NoticeLaw { n with firstUp := first } :=
  h.congr (fun e => by cases e <;> rfl) h.2

theorem NoticeLaw.linkUp (h : NoticeLaw n) : NoticeLaw n.linkUp := by
  rw [NoticeUnit.linkUp_eq]
  split
  next => exact h.announceDue.withFirstUp false
  next => exact h.announceDue.raise _ _

/-- The head record leaves the queue (R137). -/
theorem NoticeLaw.placed (h : NoticeLaw n) {r : NoticeRecord} {rest : List NoticeRecord} (queue : n.queue = r :: rest)
    (seq : Byte) : NoticeLaw { n with queue := rest, nextSeq := seq } := by
  have law := h.2
  rw [queue] at law
  obtain ⟨sources, lawful⟩ := queueLaw_iff.1 law
  exact h.congr (fun e => by cases e <;> rfl)
    ⟨(List.nodup_cons.1 sources).2, fun x mem => lawful x (List.mem_cons_of_mem r mem)⟩

end

end Sys2Proof.Machine

/-! PROOF. Every step keeps the law of the event records and of the notice queue (R132, R136, R139): the blocks raise
events, and EVENT_ENABLE, EVENT_CLEAR, the link and the placement of a NOTICE change the Notice Unit themselves. -/

namespace Sys2Proof.Machine

/-- The law of the Notice Unit carries over from one state to the other. -/
def NoticeKept (s t : State) : Prop := NoticeLaw s.notice → NoticeLaw t.notice

theorem NoticeKept.trans {s t u : State} (h : NoticeKept s t) (k : NoticeKept t u) : NoticeKept s u := k ∘ h

section
variable {s t : State} {b : BayId}

theorem NoticeKept.same (notice : t.notice = s.notice := by simp) : NoticeKept s t := by
  unfold NoticeKept
  rw [notice]
  exact id

theorem NoticeKept.refl (s : State) : NoticeKept s s := id

theorem NoticeKept.updLife (f : Lifecycle → Lifecycle) : NoticeKept s (s.updLife b f) := NoticeKept.same

theorem NoticeKept.updEngine (f : Engine → Engine) : NoticeKept s (s.updEngine b f) := NoticeKept.same

theorem NoticeKept.setBay (x : Bay) : NoticeKept s (s.setBay b x) := NoticeKept.same

theorem NoticeKept.setList (l : List Entry) : NoticeKept s (s.setList b l) := NoticeKept.same

theorem NoticeKept.stopEngine : NoticeKept s (s.stopEngine b) := NoticeKept.same

theorem NoticeKept.releaseBus : NoticeKept s (s.releaseBus b) := NoticeKept.same

theorem NoticeKept.startRequest : NoticeKept s (s.startRequest b) := NoticeKept.same

theorem NoticeKept.removalWindowClear : NoticeKept s (s.removalWindowClear b) := NoticeKept.same

theorem NoticeKept.freed (p : Pool) : NoticeKept s (s.freed p) := NoticeKept.same

theorem NoticeKept.raise (e : EventId) (r : Option Reason) : NoticeKept s (s.raise e r) := fun h => h.raise e r

/-! ## The ends of entries -/

theorem NoticeKept.settleEntry (b : BayId) (st : AnswerStatus) (e : Entry) : NoticeKept s (s.settleEntry b st e) := by
  cases e with
  | store e =>
    unfold State.settleEntry
    dsimp only
    split
    next => exact NoticeKept.freed .store
    next => exact (NoticeKept.raise _ _).trans (NoticeKept.freed .store)
  | request e =>
    unfold State.settleEntry
    dsimp only
    split
    next => exact NoticeKept.freed .request
    next => exact NoticeKept.same

theorem NoticeKept.settleEntries (b : BayId) (st : AnswerStatus) (l : List Entry) :
    NoticeKept s (s.settleEntries b st l) :=
  List.foldlRecOn l _ (NoticeKept.refl s) (fun _ kept e _ => kept.trans (NoticeKept.settleEntry b st e))

theorem NoticeKept.endHead (b : BayId) (st : AnswerStatus) : NoticeKept s (s.endHead b st) := by
  unfold State.endHead
  split
  next => exact NoticeKept.refl s
  next e rest _ => exact (NoticeKept.settleEntry b st e).trans (NoticeKept.setList rest)

theorem NoticeKept.purge (b : BayId) (st : AnswerStatus) : NoticeKept s (s.purge b st) :=
  (NoticeKept.settleEntries b st _).trans (NoticeKept.setList [])

theorem NoticeKept.purgeBehindHead (b : BayId) (st : AnswerStatus) : NoticeKept s (s.purgeBehindHead b st) := by
  unfold State.purgeBehindHead
  split
  next => exact NoticeKept.refl s
  next e rest _ => exact (NoticeKept.settleEntries b st rest).trans (NoticeKept.setList [e])

/-! ## Leaving service -/

/-- A change outside the Notice Unit, with a report of an event. -/
theorem NoticeKept.reported (notice : t.notice = s.notice) (e : EventId) (r : Option Reason) :
    NoticeKept s (t.raise e r) := (NoticeKept.same notice).trans (NoticeKept.raise e r)

theorem NoticeKept.enterFaulted (r : FaultReason) : NoticeKept s (s.enterFaulted b r) :=
  ((NoticeKept.stopEngine.trans (NoticeKept.purge b .bayFault)).trans (NoticeKept.updLife _)).trans
    (NoticeKept.raise _ _)

theorem NoticeKept.removeModule : NoticeKept s (s.removeModule b) :=
  ((((NoticeKept.stopEngine.trans (NoticeKept.purge b .gone)).trans NoticeKept.removalWindowClear).trans
    (NoticeKept.updLife _)).trans (NoticeKept.raise _ _)).trans (NoticeKept.setBay _)

theorem NoticeKept.takeRemoval : NoticeKept s (s.takeRemoval b) := by
  unfold State.takeRemoval
  split
  next => exact NoticeKept.removeModule
  next => exact NoticeKept.refl s

theorem NoticeKept.pgoodLost : NoticeKept s ((s.setPgood b false).enterFaulted b .powerFail) :=
  (NoticeKept.same (t := s.setPgood b false)).trans (NoticeKept.enterFaulted _)

theorem NoticeKept.takePgoodLoss : NoticeKept s (s.takePgoodLoss b) := by
  unfold State.takePgoodLoss
  split
  next => exact NoticeKept.pgoodLost
  next => exact NoticeKept.same

theorem NoticeKept.completeQuiesce : NoticeKept s (s.completeQuiesce b) := NoticeKept.reported (by simp) _ _

theorem NoticeKept.takeQuiesceCompletion : NoticeKept s (s.takeQuiesceCompletion b) := by
  unfold State.takeQuiesceCompletion
  split
  next => exact NoticeKept.completeQuiesce
  next => exact NoticeKept.refl s

theorem NoticeKept.completeIfEmpty : NoticeKept s (s.completeIfEmpty b) := by
  unfold State.completeIfEmpty
  split
  next => exact NoticeKept.completeQuiesce
  next => exact NoticeKept.refl s

theorem NoticeKept.quiesceAtOnce : NoticeKept s (s.quiesceAtOnce b) := NoticeKept.reported (by simp) _ _

theorem NoticeKept.abandon : NoticeKept s (s.abandon b) := by
  unfold State.abandon
  split
  next => exact (NoticeKept.updEngine _).trans (NoticeKept.purgeBehindHead b .quiesced)
  next => exact NoticeKept.stopEngine.trans (NoticeKept.purge b .quiesced)

theorem NoticeKept.enterQuiescing (mode : QuiesceMode) : NoticeKept s (s.enterQuiescing b mode) := by
  unfold State.enterQuiescing
  cases mode with
  | drain => exact (NoticeKept.updLife _).trans NoticeKept.completeIfEmpty
  | abandon => exact ((NoticeKept.updLife _).trans NoticeKept.abandon).trans NoticeKept.completeIfEmpty

theorem NoticeKept.convertDrain : NoticeKept s (s.convertDrain b) :=
  ((NoticeKept.updLife _).trans NoticeKept.abandon).trans NoticeKept.completeIfEmpty

theorem NoticeKept.reportUnresponsive : NoticeKept s (s.reportUnresponsive b) := by
  unfold State.reportUnresponsive
  split
  next => exact NoticeKept.enterFaulted _
  next => exact NoticeKept.refl s

theorem NoticeKept.overtake (m : Meeting) : NoticeKept s (s.overtake b m) := by
  cases m
  case removal => exact NoticeKept.takeRemoval
  all_goals exact NoticeKept.refl s

/-! ## Identification, the profile read and the cycles -/

theorem NoticeKept.identify (c : ModuleClass) : NoticeKept s (s.identify b c) := by
  unfold State.identify
  dsimp only
  split
  next => exact (NoticeKept.updLife _).trans (NoticeKept.enterFaulted _)
  next => split <;> exact NoticeKept.same

theorem NoticeKept.enterReady (p : ProfileSummary) : NoticeKept s (s.enterReady b p) :=
  NoticeKept.reported (by simp) _ _

theorem NoticeKept.profileOutcome (bytes : Option (List Byte)) : NoticeKept s (s.profileOutcome b bytes) := by
  refine (NoticeKept.updEngine (b := b) Engine.cleared).trans ?_
  unfold State.profileOutcome
  dsimp only
  split
  next =>
    split
    next p _ => exact NoticeKept.enterReady p
    next => exact NoticeKept.enterFaulted _
  next => exact NoticeKept.refl _

theorem NoticeKept.profileByte (x : Byte) : NoticeKept s (s.profileByte b x) := by
  unfold State.profileByte
  dsimp only
  split
  next => exact (NoticeKept.updEngine _).trans (NoticeKept.profileOutcome _)
  next => exact NoticeKept.same

theorem NoticeKept.finishRequest (b : BayId) (st : AnswerStatus) : NoticeKept s (s.finishRequest b st) :=
  (NoticeKept.endHead b st).trans (NoticeKept.updEngine _)

theorem NoticeKept.endRequest (st : AnswerStatus) : NoticeKept s (s.endRequest b st) :=
  (NoticeKept.finishRequest b st).trans NoticeKept.startRequest

theorem NoticeKept.requestCycleDone (c : Cycle) (lanes : BitVec 16) :
    NoticeKept s (s.requestCycleDone b c lanes) := by
  unfold State.requestCycleDone
  split
  next => exact NoticeKept.same
  next head rest _ =>
    dsimp only
    split
    next => exact (NoticeKept.setList _).trans (NoticeKept.endRequest _)
    next =>
      split
      next => exact (NoticeKept.setList _).trans (NoticeKept.endRequest _)
      next => exact NoticeKept.same

theorem NoticeKept.endCycle (c : Cycle) (error : Bool) (lanes : BitVec 16) :
    NoticeKept s (s.endCycle b c error lanes) := by
  refine (NoticeKept.releaseBus (b := b)).trans ?_
  unfold State.endCycle
  dsimp only
  split
  next => exact NoticeKept.same
  next =>
    split
    next => exact NoticeKept.profileOutcome _
    next => exact NoticeKept.profileByte _
  next =>
    split
    next => exact NoticeKept.endRequest _
    next => exact NoticeKept.requestCycleDone c lanes

/-! ## The link -/

theorem NoticeKept.resetAll (epoch : Byte) (straps : BitVec 4) : NoticeKept s (s.resetAll epoch straps) :=
  fun _ => noticeLaw_reset

theorem State.enterUp_notice (s : State) : s.enterUp.notice = s.notice.linkUp := by
  unfold State.enterUp
  rw [State.setNotice_notice]

theorem State.departUp_notice (s : State) : s.departUp.notice = s.notice.forgetAnnounced := by
  unfold State.departUp
  rw [State.setMgmt_notice, State.setNotice_notice]

theorem NoticeKept.enterUpIfTrained : NoticeKept s s.enterUpIfTrained := by
  unfold State.enterUpIfTrained
  split
  next =>
    intro h
    rw [State.enterUp_notice]
    exact h.linkUp
  next => exact NoticeKept.refl s

theorem NoticeKept.leaveUp : NoticeKept s s.leaveUp := by
  unfold State.leaveUp
  split
  next => exact NoticeKept.resetAll _ _
  next =>
    intro h
    rw [State.departUp_notice]
    exact h.forgetAnnounced

theorem NoticeKept.exhaustion : NoticeKept s (s.setLink s.link.countExhaustion).leaveUp :=
  (NoticeKept.same (by simp)).trans NoticeKept.leaveUp

theorem NoticeKept.takeAck (n : LinkSeq) : NoticeKept s (s.takeAck n) := by
  unfold State.takeAck
  dsimp only
  split
  next =>
    split
    next => exact NoticeKept.resetAll _ _
    next => exact NoticeKept.same
  next => exact NoticeKept.same

/-! ## Intake -/

/-- The credit check raises an overrun, or lets the rest of intake meet the consumed credit (R148). -/
theorem NoticeKept.withCredit (p : Pool) {next : State → State}
    (pass : NoticeKept (s.consumed p) (next (s.consumed p))) : NoticeKept s (s.withCredit p next) :=
  State.withCredit_induction (P := NoticeKept s) s p next (NoticeKept.refl s) (NoticeKept.reported (by simp) _ _)
    ((NoticeKept.same rfl).trans pass)

theorem NoticeKept.discard (p : Pool) (r : Reason) : NoticeKept s (s.discard p r) :=
  NoticeKept.reported (by simp) _ _

theorem NoticeKept.dropAtIntake (st : AnswerStatus) : NoticeKept s (s.dropAtIntake b st) :=
  NoticeKept.reported (by simp) _ _

theorem NoticeKept.takeAfterAppend (m : Meeting) : NoticeKept s (s.takeAfterAppend m) :=
  State.takeAfterAppend_induction (P := NoticeKept s) s m (NoticeKept.refl s) (fun _ => NoticeKept.same)
    (fun _ => NoticeKept.leaveUp) (fun _ _ _ => NoticeKept.same) (fun _ => NoticeKept.exhaustion)

theorem NoticeKept.append (e : Entry) (m : Meeting) : NoticeKept s (s.append b e m) :=
  ((NoticeKept.setList _).trans (NoticeKept.takeAfterAppend m)).trans NoticeKept.startRequest

theorem NoticeKept.routeRequest (k : RequestKind) (f : RequestFields) (m : Meeting) :
    NoticeKept s (s.routeRequest k f m) := by
  unfold State.routeRequest
  split
  next => exact NoticeKept.same
  next w _ =>
    refine (NoticeKept.overtake (b := w.bay) m).trans ?_
    dsimp only
    split
    next => exact NoticeKept.same
    next =>
      split
      next => exact NoticeKept.same
      next => exact NoticeKept.append _ _

theorem NoticeKept.intakeRequest (k : RequestKind) (fields : Option RequestFields) (m : Meeting) :
    NoticeKept s (s.intakeRequest k fields m) := by
  refine NoticeKept.withCredit .request ?_
  split
  next => exact NoticeKept.discard _ _
  next f =>
    split
    next => exact NoticeKept.discard _ _
    next =>
      split
      next => exact NoticeKept.discard _ _
      next => exact NoticeKept.routeRequest k f m

theorem NoticeKept.routeStore (f : StoreFields) (m : Meeting) : NoticeKept s (s.routeStore f m) := by
  unfold State.routeStore
  split
  next => exact NoticeKept.reported (by simp) _ _
  next w _ =>
    refine (NoticeKept.overtake (b := w.bay) m).trans ?_
    dsimp only
    split
    next => exact NoticeKept.dropAtIntake _
    next =>
      split
      next => exact NoticeKept.dropAtIntake _
      next => exact NoticeKept.append _ _

theorem NoticeKept.intakeStore (fields : Option StoreFields) (m : Meeting) :
    NoticeKept s (s.intakeStore fields m) := by
  refine NoticeKept.withCredit .store ?_
  split
  next => exact NoticeKept.discard _ _
  next f =>
    split
    next => exact NoticeKept.discard _ _
    next => exact NoticeKept.routeStore f m

/-! ## The management commands -/

theorem NoticeKept.commandQuiesce (o : List Byte) : NoticeKept s (Machine.commandQuiesce o s).after := by
  unfold Machine.commandQuiesce
  split
  next => exact NoticeKept.refl s
  next b mode _ =>
    split
    case h_9 => exact NoticeKept.enterQuiescing mode
    case h_10 =>
      split
      next => exact NoticeKept.convertDrain
      next => exact NoticeKept.refl s
    case h_1 | h_2 | h_3 | h_11 => exact NoticeKept.refl s
    all_goals exact NoticeKept.quiesceAtOnce

/-- QUIESCE may raise events, EVENT_INJECT raises one, and EVENT_ENABLE and EVENT_CLEAR change the Notice Unit by their
own rules; the others leave it alone. -/
theorem NoticeKept.commandByCode (code : Byte) (o : List Byte) :
    NoticeKept s (Machine.commandByCode code o s).after := by
  apply commandByCode_induction (P := fun r => NoticeKept s r.after) s o
  case refuse => exact fun _ => NoticeKept.refl s
  case quiesce => exact NoticeKept.commandQuiesce o
  case eventEnable =>
    unfold commandEventEnable
    split
    next => exact NoticeKept.refl s
    next source kinds _ => exact fun h => h.enableKinds source kinds
  case eventClear =>
    unfold commandEventClear
    split
    next => exact NoticeKept.refl s
    next source kinds _ => exact fun h => h.clearKinds source kinds
  case eventInject =>
    unfold commandEventInject
    split
    next => exact NoticeKept.refl s
    next e _ => exact NoticeKept.raise e _
  -- what remains leaves the Notice Unit alone
  all_goals
    simp only [commandIdentify, commandWindowWrite, commandWindowRead, commandWindowClear, commandWindowClearBay,
      commandBayStatus, commandBayPolicy, commandPowerOn, commandBayRestart, commandEventRead, commandCountersRead,
      commandBridgeReset]
    (repeat' split) <;> exact NoticeKept.same rfl

/-- A MGMT packet keeps the law if its command does. -/
theorem NoticeKept.intakeMgmt (seq : Byte) {command : State → CommandResult}
    (keeps : ∀ u : State, NoticeKept u (command u).after) : NoticeKept s (s.intakeMgmt seq command) := by
  refine NoticeKept.withCredit .mgmt ?_
  unfold State.acceptMgmt
  split
  next => exact NoticeKept.same
  next => exact (keeps _).trans NoticeKept.same

theorem NoticeKept.intake (p : Packet) (m : Meeting) : NoticeKept s (s.intake p m) := by
  cases p with
  | fetch f => exact NoticeKept.intakeRequest .fetch f m
  | store f => exact NoticeKept.intakeStore f m
  | portFetch f => exact NoticeKept.intakeRequest .portFetch f m
  | portStore f => exact NoticeKept.intakeRequest .portStore f m
  | mgmt seq code o => exact NoticeKept.intakeMgmt seq (fun _ => NoticeKept.commandByCode code o)
  | mgmtShort => exact NoticeKept.withCredit .mgmt (NoticeKept.discard _ _)
  | unknownKind =>
    show NoticeKept s s.intakeUnknown
    unfold State.intakeUnknown
    split
    next => exact NoticeKept.raise _ _
    next => exact NoticeKept.refl s

/-! ## The access timer -/

theorem NoticeKept.takeBefore (before : BeforeReport) : NoticeKept s (s.takeBefore b before) := by
  cases before with
  | nothing => exact NoticeKept.refl s
  | quiesceCompletion => exact NoticeKept.takeQuiesceCompletion
  | removal => exact NoticeKept.takeRemoval
  | pgoodLoss => exact NoticeKept.takePgoodLoss
  | quiesce seq o => exact NoticeKept.intakeMgmt seq (fun _ => NoticeKept.commandQuiesce o)

theorem NoticeKept.timeoutRequest (before : BeforeReport) : NoticeKept s (s.timeoutRequest b before) := by
  unfold State.timeoutRequest
  split
  next =>
    exact ((NoticeKept.finishRequest b _).trans (NoticeKept.takeBefore before)).trans NoticeKept.reportUnresponsive
  next => exact NoticeKept.endRequest _

theorem NoticeKept.timeoutCycle (before : BeforeReport) : NoticeKept s (s.timeoutCycle b before) := by
  refine (NoticeKept.releaseBus (b := b)).trans ?_
  unfold State.timeoutCycle
  dsimp only
  split
  next => exact NoticeKept.same
  next => exact NoticeKept.profileOutcome _
  next =>
    split
    next => exact NoticeKept.endRequest _
    next => exact NoticeKept.timeoutRequest before

end

/-! ## Every command -/

theorem exec_noticeKept (i : Instr) (s t : State) (e : exec i s = .next t) : NoticeKept s t := by
  apply exec_induction (P := NoticeKept s) s (h := e)
  case nothing => exact NoticeKept.refl s
  case reset => exact NoticeKept.resetAll
  case deferredReset => exact fun _ _ => NoticeKept.resetAll _ _
  case sendTrain => exact fun _ => (NoticeKept.same (by simp)).trans NoticeKept.enterUpIfTrained
  case countTrain => exact fun _ _ => (NoticeKept.same (by simp)).trans NoticeKept.enterUpIfTrained
  case accept => exact fun p m _ => (NoticeKept.same (by simp)).trans (NoticeKept.intake p m)
  case ackReceived => exact fun n _ => NoticeKept.takeAck n
  case leaveUp => exact fun _ => NoticeKept.leaveUp
  case exhaustion => exact fun _ => NoticeKept.exhaustion
  case intake => exact NoticeKept.intake
  case endCycle => exact fun _ c _ error lanes _ => NoticeKept.endCycle c error lanes
  case timeoutCycle => exact fun _ _ before _ => NoticeKept.timeoutCycle before
  case stablePresence => exact fun _ _ => (NoticeKept.setBay _).trans (NoticeKept.raise _ _)
  case removal => exact fun _ _ _ => NoticeKept.removeModule
  case identify => exact fun _ c _ => NoticeKept.identify c
  case powerGoodWait => exact fun _ _ => NoticeKept.enterFaulted _
  case pgoodLost => exact fun _ _ => NoticeKept.pgoodLost
  case readyTimeout => exact fun _ _ => NoticeKept.enterFaulted _
  case attention => exact fun _ _ => NoticeKept.raise _ _
  case quiesced => exact fun _ _ _ => NoticeKept.completeQuiesce
  case placeNotice => exact fun r rest queue _ h => h.placed queue _
  -- what remains leaves the Notice Unit alone
  all_goals intros; exact NoticeKept.same

/-- Settles O55: every command keeps the law, so a step does; the queue of commands is no part of it. -/
theorem noticeLawIsKept : Obligations.NoticeLawIsKept := fun _ _ h e =>
  step_of_exec (P := fun s => NoticeLaw s.notice) (fun _ _ h => h) (fun i s t h e => exec_noticeKept i s t e h) h e

end Sys2Proof.Machine

/-! PROOF. The Notice Unit at a raise, under EVENT_INJECT, EVENT_ENABLE and EVENT_CLEAR, and when the link leaves UP and
reaches it (R134 to R140, R143, R144). -/

namespace Sys2Proof.Machine

/-! ## The link -/

section
variable {n : NoticeUnit}

theorem NoticeUnit.linkUp_first (first : n.firstUp = true) :
    n.linkUp = { n.announceDue with firstUp := false } := by
  rw [NoticeUnit.linkUp_eq, if_pos first]

theorem NoticeUnit.linkUp_again (later : n.firstUp = false) :
    n.linkUp = n.announceDue.raise (.bridge .linkRestored) none := by
  rw [NoticeUnit.linkUp_eq, if_neg (by simp [later])]

theorem NoticeUnit.withFirstUp_record (n : NoticeUnit) (first : Bool) (e : EventId) :
    { n with firstUp := first }.record e = n.record e := by
  cases e <;> rfl

/-- The entry to UP announces; the record of LINK_RESTORED alone may change further (R144). -/
theorem NoticeUnit.linkUp_record {e : EventId} (other : n.firstUp = true ∨ e ≠ .bridge .linkRestored) :
    n.linkUp.record e = n.announceDue.record e := by
  cases first : n.firstUp
  · have ne : e ≠ .bridge .linkRestored := other.resolve_left (by simp [first])
    rw [NoticeUnit.linkUp_again first, NoticeUnit.raise_record, if_neg ne.symm]
  · rw [NoticeUnit.linkUp_first first, NoticeUnit.withFirstUp_record]

/-- A LINK_RESTORED that is set already is announced and counted (R135, R144). -/
theorem NoticeUnit.linkUp_counts (later : n.firstUp = false) (set : (n.record (.bridge .linkRestored)).flag = true) :
    n.linkUp.record (.bridge .linkRestored) =
      { n.record (.bridge .linkRestored) with
        count := satSucc 255 (n.record (.bridge .linkRestored)).count,
        announced := (n.record (.bridge .linkRestored)).announced || (n.record (.bridge .linkRestored)).enable } := by
  rw [NoticeUnit.linkUp_again later, NoticeUnit.raise_record, if_pos rfl, NoticeUnit.announceDue_record, if_pos set]
  simp [set]

/-- A LINK_RESTORED that is clear is set, and announced where it is enabled (R134, R144). -/
theorem NoticeUnit.linkUp_sets (later : n.firstUp = false) (clear : (n.record (.bridge .linkRestored)).flag = false) :
    n.linkUp.record (.bridge .linkRestored) =
      { n.record (.bridge .linkRestored) with
        flag := true, count := 1, firstReason := none,
        announced := (n.record (.bridge .linkRestored)).enable } := by
  rw [NoticeUnit.linkUp_again later, NoticeUnit.raise_record, if_pos rfl, NoticeUnit.announceDue_record,
    if_neg (by simp [clear])]

theorem NoticeUnit.dueAtUp_other {e : EventId}
    (other : n.firstUp = true ∨ e ≠ .bridge .linkRestored ∨ (n.record e).flag = true) :
    n.dueAtUp e = n.unannounced e := by
  have notRaised : (!n.firstUp && decide (e = .bridge .linkRestored) && !(n.record e).flag) = false := by
    rcases other with first | ne | set
    · simp [first]
    · simp [ne]
    · simp [set]
  unfold NoticeUnit.dueAtUp NoticeUnit.unannounced
  rw [notRaised, Bool.or_false, Bool.and_left_comm, Bool.and_assoc]

theorem NoticeUnit.dueAtUp_raised (later : n.firstUp = false)
    (clear : (n.record (.bridge .linkRestored)).flag = false) :
    n.dueAtUp (.bridge .linkRestored) = (n.record (.bridge .linkRestored)).enable := by
  simp [NoticeUnit.dueAtUp, later, clear]

/-- The events due at the entry to UP join the queue; LINK_RESTORED, raised last, is the last of them (R144). -/
theorem NoticeUnit.linkUp_queue (n : NoticeUnit) :
    n.linkUp.queue = joinQueue (EventId.all.filter n.dueAtUp) n.queue := by
  cases first : n.firstUp
  · obtain ⟨l, all, absent⟩ : ∃ l, EventId.all = l ++ [.bridge .linkRestored] ∧ .bridge .linkRestored ∉ l :=
      ⟨EventId.all.dropLast, by decide, by decide⟩
    have rest : l.filter n.dueAtUp = l.filter n.unannounced :=
      List.filter_congr (fun e mem => n.dueAtUp_other (.inr (.inl (ne_of_mem_of_not_mem mem absent))))
    rw [NoticeUnit.linkUp_again first, NoticeUnit.raise_queue, NoticeUnit.announceDue_record,
      NoticeUnit.announceDue_queue, all, List.filter_append, List.filter_append, rest, joinQueue_append,
      joinQueue_append]
    cases flag : (n.record (.bridge .linkRestored)).flag
    · have due := n.dueAtUp_raised first flag
      have undue : n.unannounced (.bridge .linkRestored) = false := by simp [NoticeUnit.unannounced, flag]
      rw [List.filter_cons, List.filter_cons, due, undue]
      cases enable : (n.record (.bridge .linkRestored)).enable <;> simp [joinQueue]
    · have due := n.dueAtUp_other (.inr (.inr flag))
      rw [List.filter_cons, List.filter_cons, due]
      simp
  · have due : EventId.all.filter n.dueAtUp = EventId.all.filter n.unannounced :=
      List.filter_congr (fun e _ => n.dueAtUp_other (.inl first))
    rw [NoticeUnit.linkUp_first first, due, ← NoticeUnit.announceDue_queue]

theorem NoticeUnit.linkUp_rest (n : NoticeUnit) : n.linkUp.nextSeq = n.nextSeq ∧ n.linkUp.firstUp = false := by
  obtain ⟨seq, still⟩ := n.announceDue_rest
  cases first : n.firstUp
  · rw [NoticeUnit.linkUp_again first, (NoticeUnit.raise_rest ..).1, (NoticeUnit.raise_rest ..).2]
    exact ⟨seq, still.trans first⟩
  · rw [NoticeUnit.linkUp_first first]
    dsimp only
    exact ⟨seq, rfl⟩

end

/-- Settles O7: the departure forgets, record by record; the entry announces what is due, and LINK_RESTORED is the one
event that it raises. -/
theorem noticesFollowLink : Obligations.NoticesFollowLink := by
  intro n e
  obtain ⟨queue, seq, first⟩ := n.forgetAnnounced_rest
  refine ⟨n.forgetAnnounced_record e, queue, seq, first, fun other => ?_, NoticeUnit.linkUp_counts,
    NoticeUnit.linkUp_sets, fun law => ?_, n.linkUp_rest⟩
  · rw [NoticeUnit.linkUp_record other, NoticeUnit.announceDue_record]
  · rw [NoticeUnit.linkUp_queue, joinQueue_all law.1]

/-! ## Raising an event -/

/-- The code of an event's source and its kind alone name the event (R142). -/
theorem eventInjectOperands_own (e : EventId) : eventInjectOperands [e.source.code, e.mask] = some e := by
  rcases e with ⟨b, k⟩ | k
  · cases b <;> cases k <;> rfl
  · cases k <;> rfl

theorem exec_eventInject {s : State} {q : Byte} (accepts : s.AcceptsMgmt q) (e : EventId) :
    exec (.eventInject q [e.source.code, e.mask]) s =
      .next ((s.raise e (some .injected)).responded q .done []) := by
  refine congrArg _ (State.intakeMgmt_done accepts _ _ _ ?_)
  unfold commandEventInject
  rw [eventInjectOperands_own]
  rfl

/-- Settles O49, from the record and the queue after a raise. -/
theorem raisedEventsAreRecorded : Obligations.RaisedEventsAreRecorded := by
  intro s e reason
  obtain ⟨seq, first⟩ := s.notice.raise_rest e reason
  refine ⟨fun set => ⟨?_, ?_⟩, fun clear => ⟨?_, fun off => ?_, fun on =>
    ⟨fun absent => ?_, fun p r a queue source others => ?_⟩⟩, fun x ne => ?_, seq, first,
    fun q accepts => exec_eventInject accepts e⟩
  · exact (NoticeUnit.raise_record ..).trans (by rw [if_pos rfl, if_pos set]; rfl)
  · exact (NoticeUnit.raise_queue ..).trans (if_neg (by simp [set]))
  · exact (NoticeUnit.raise_record ..).trans (by rw [if_pos rfl, if_neg (by simp [clear])])
  · exact (NoticeUnit.raise_queue ..).trans (if_neg (by simp [off]))
  · exact (NoticeUnit.raise_queue ..).trans ((if_pos ⟨clear, on⟩).trans (addToQueue_absent e _ absent))
  · exact (NoticeUnit.raise_queue ..).trans ((if_pos ⟨clear, on⟩).trans
      (queue ▸ addToQueue_present e p r a others source))
  · exact (NoticeUnit.raise_record ..).trans (if_neg ne.symm)

/-! ## EVENT_ENABLE and EVENT_CLEAR -/

theorem exec_eventEnable {s : State} {q : Byte} (accepts : s.AcceptsMgmt q) {source : Source} {kinds : BitVec 8}
    (own : kinds &&& ~~~source.kinds = 0#8) :
    exec (.eventEnable q [source.code, kinds]) s =
      .next ((s.setNotice (s.notice.enableKinds source kinds)).responded q .done []) := by
  refine congrArg _ (State.intakeMgmt_done accepts _ _ _ ?_)
  unfold commandEventEnable
  rw [eventKindsOperands_own own]
  rfl

theorem exec_eventClear {s : State} {q : Byte} (accepts : s.AcceptsMgmt q) {source : Source} {kinds : BitVec 8}
    (own : kinds &&& ~~~source.kinds = 0#8) :
    exec (.eventClear q [source.code, kinds]) s =
      .next ((s.clearEvents source kinds).responded q .done
        ((source.events.filter (fun e => e.within kinds)).flatMap (fun e => (s.notice.record e).clearedBytes))) := by
  refine congrArg _ (State.intakeMgmt_done accepts _ _ _ ?_)
  unfold commandEventClear
  rw [eventKindsOperands_own own]
  rfl

/-- Settles O50, from the records and the queue after the enabling of several kinds. -/
theorem enableAnnouncesSetKinds : Obligations.EnableAnnouncesSetKinds := by
  intro s q source kinds accepts own
  refine ⟨s.notice.enableKinds source kinds, exec_eventEnable accepts own, fun e same => ?_, fun e other => ?_,
    fun announced => ?_, fun law => ?_, s.notice.enableKinds_rest source kinds⟩
  · rw [NoticeUnit.enableKinds_record, if_pos same]
    rfl
  · rw [NoticeUnit.enableKinds_record, if_neg other]
  · have none : source.events.filter (s.notice.dueAtEnable kinds) = [] := by
      refine List.filter_eq_nil_iff.2 (fun e mem due => ?_)
      simp only [NoticeUnit.dueAtEnable, Bool.and_eq_true, Bool.not_eq_true'] at due
      obtain ⟨⟨⟨named, off⟩, set⟩, unannounced⟩ := due
      exact absurd (unannounced.symm.trans (announced e ((source.mem_events e).1 mem) named off set)) (by decide)
    rw [NoticeUnit.enableKinds_queue, none]
    rfl
  · rw [NoticeUnit.enableKinds_queue, joinQueue_source law.1]
    congr 1
    funext x
    split
    next same => rw [same]; rfl
    next => rfl

/-- Settles O51: the records and the queue after the clearing of several kinds, and the count of R136. -/
theorem clearEmptiesRecords : Obligations.ClearEmptiesRecords := by
  intro s q source kinds accepts law own
  obtain ⟨seq, first⟩ := s.notice.clearKinds_rest source kinds
  refine ⟨s.notice.clearKinds source kinds, (s.clearEvents source kinds).starvation, exec_eventClear accepts own,
    fun e same named => ?_, fun e other => ?_, s.notice.clearKinds_queue law.2 own, seq, first,
    fun waited emptied => if_pos ⟨waited, emptied⟩, fun same => if_neg (fun emptied => ?_)⟩
  · rw [NoticeUnit.clearKinds_record, if_pos ⟨same, named⟩]
  · rw [NoticeUnit.clearKinds_record, if_neg (fun both => ?_)]
    exact other.elim (· both.1) (fun unnamed => by simp [both.2] at unnamed)
  · exact same.elim emptied.1 (· emptied.2)

end Sys2Proof.Machine

/-! PROOF. The placement of the head NOTICE (R126 to R128, R137), and the commands that read (R141, R167, R168, R171). -/

namespace Sys2Proof.Machine

/-! ## The placement of a NOTICE -/

section
variable {s : State} {r : NoticeRecord} {rest : List NoticeRecord}

/-- The head NOTICE is last in class order (R127). -/
theorem State.classOrder_notice (unwanted : s.ledger.grantWanted = false) (idle : s.mgmt.busy = false)
    (answers : s.answerOrder = []) (queue : s.notice.queue = r :: rest) : s.classOrder = some .notice := by
  simp [State.classOrder, unwanted, idle, answers, queue]

/-- A NOTICE that has waited for eight placements is ahead of every class (R127). -/
theorem State.arbiterChoice_starved (up : s.link.state = .up) (room : s.link.replay.length < 16)
    (waited : 8 ≤ s.starvation) (queue : s.notice.queue = r :: rest) : s.arbiterChoice = some .notice := by
  unfold State.arbiterChoice State.isUp
  rw [if_pos (by simp [up, room, Config.replayCapacity]), if_pos (by simp [waited, queue, Config.starvationLimit])]

theorem exec_placeNotice (choice : s.arbiterChoice = some .notice) (queue : s.notice.queue = r :: rest) :
    exec .placeNotice s = .next (s.placeNoticeNow r rest) := by
  simp [exec, execPlaceNotice, choice, queue]

end

/-- Settles O40: starved, or by class order, the arbiter chooses the NOTICE. -/
theorem noticeIsPlaced : Obligations.NoticeIsPlaced := by
  intro s r rest up room queue cause
  refine exec_placeNotice ?_ queue
  by_cases waited : 8 ≤ s.starvation
  · exact State.arbiterChoice_starved up room waited queue
  · obtain ⟨unwanted, idle, answers⟩ := cause.resolve_left waited
    rw [State.arbiterChoice_classOrder up room (.inl (Nat.lt_of_not_le waited))]
    exact State.classOrder_notice unwanted idle answers queue

/-! ## The commands that read -/

section
variable {s : State} {q : Byte}

theorem exec_identify (accepts : s.AcceptsMgmt q) :
    exec (.identify q []) s = .next (s.responded q .done s.identifyBytes) :=
  congrArg _ (State.intakeMgmt_done accepts _ s _ rfl)

theorem exec_bayStatus (accepts : s.AcceptsMgmt q) {x : Byte} {b : BayId} (h : x.toNat = b.toNat) :
    exec (.bayStatus q [x]) s = .next (s.responded q .done (s.bay b).reportBytes) := by
  refine congrArg _ (State.intakeMgmt_done accepts _ s _ ?_)
  simp only [commandBayStatus, oneOperand, bayOperand_of h]
  rfl

theorem exec_eventRead (accepts : s.AcceptsMgmt q) (source : Source) :
    exec (.eventRead q [source.code]) s =
      .next (s.responded q .done (source.events.flatMap (fun e => (s.notice.record e).readBytes))) := by
  refine congrArg _ (State.intakeMgmt_done accepts _ s _ ?_)
  simp only [commandEventRead, oneOperand, sourceOperand_code]
  rfl

/-- COUNTERS_READ returns the counters as they stand, and then may clear them (R171). -/
theorem exec_countersRead (accepts : s.AcceptsMgmt q) {x : Byte} {clear : Bool} (h : yesNoOperand x = some clear) :
    exec (.countersRead q [x]) s =
      .next ((if clear then s.setLink { s.link with counters := .reset } else s).responded q .done
        s.link.counters.resultBytes) := by
  refine congrArg _ (State.intakeMgmt_done accepts _ _ _ ?_)
  simp only [commandCountersRead, oneOperand, h]
  cases clear <;> rfl

end

/-- Settles O45, command by command. -/
theorem readCommandsReport : Obligations.ReadCommandsReport := by
  intro s q accepts
  refine ⟨exec_identify accepts, fun x b => exec_bayStatus accepts, fun x source code => ?_,
    exec_countersRead (clear := false) accepts rfl, exec_countersRead (clear := true) accepts rfl⟩
  rw [code]
  exact exec_eventRead accepts source

end Sys2Proof.Machine

/-! PROOF. The first three checks of intake in their order: credit (R147, R148), form (R149, R150) and tag (R151). -/

namespace Sys2Proof.Machine

/-! ## The credit check -/

/-- A request packet meets the credit check of its pool ahead of everything else (R148). -/
theorem exec_requestPool {i : Instr} {p : Pool} (h : requestPool i = some p) :
    ∃ next : State → State, ∀ s, exec i s = .next (s.withCredit p next) := by
  unfold requestPool at h
  split at h
  case h_6 => -- a management command
    obtain ⟨⟨q, code, o⟩, fields, pool⟩ := Option.map_eq_some_iff.1 h
    subst pool
    exact ⟨_, exec_mgmtFields fields⟩
  all_goals
    injection h with h
    subst h
    exact ⟨_, fun _ => rfl⟩

/-- While the link is not UP no packet is delivered (R147). -/
theorem State.intake_notUp {s : State} (h : s.link.state ≠ .up) (p : Packet) (m : Meeting) : s.intake p m = s := by
  cases p
  case unknownKind => exact if_neg (by simp [State.isUp, h])
  all_goals
    simp only [State.intake, State.intakeRequest, State.intakeStore, State.intakeMgmt, State.intakeMgmtShort,
      State.withCredit_notUp h]

/-- Settles O15: a request packet by the credit check, and one of no request kind by the state of the link. -/
theorem packetsWithoutCreditAreOverruns : Obligations.PacketsWithoutCreditAreOverruns := by
  refine ⟨fun i p s pool => ?_, fun kind body s down => congrArg _ (State.intake_notUp down _ _)⟩
  obtain ⟨next, checked⟩ := exec_requestPool pool
  rw [checked]
  exact ⟨fun up noCredit => congrArg _ (State.withCredit_overrun up noCredit next),
    fun down => congrArg _ (State.withCredit_notUp down next)⟩

/-! ## The form check -/

theorem rangeWellFormed_iff {port : Bool} {address length : Nat} :
    rangeWellFormed port address length = true ↔
      (address < if port then 2 ^ 32 else 2 ^ 48) ∧ 1 ≤ length ∧ length ≤ blockSize port ∧
      address % blockSize port + length ≤ blockSize port := by
  simp only [rangeWellFormed, Bool.and_eq_true, decide_eq_true_eq, and_assoc]

theorem requestWellFormed_iff {k : RequestKind} {f : RequestFields} :
    requestWellFormed k f = true ↔
      f.tag.toNat < 64 ∧ rangeWellFormed k.isPort f.address.toNat f.length.toNat = true ∧
      dataWellFormed k f.length.toNat f.data = true := by
  simp only [requestWellFormed, Bool.and_eq_true, decide_eq_true_eq, and_assoc]

theorem storeWellFormed_iff {f : StoreFields} :
    storeWellFormed f = true ↔
      rangeWellFormed false f.address.toNat f.length.toNat = true ∧ f.data.length = f.length.toNat := by
  simp only [storeWellFormed, Bool.and_eq_true, beq_iff_eq]

/-- Only the five kinds of request have a meaning (R150, R191). -/
theorem packetOf_unknownKind {kind : Byte} (h : kind ∉ requestKinds) (body : List Byte) :
    packetOf (kind :: body) = .unknownKind := by
  simp only [requestKinds, List.mem_cons, List.not_mem_nil, or_false, not_or] at h
  obtain ⟨fetch, store, portFetch, portStore, mgmt⟩ := h
  exact (if_neg fetch).trans ((if_neg store).trans ((if_neg portFetch).trans ((if_neg portStore).trans (if_neg mgmt))))

/-! ## The outcomes of the form check and of the tag check -/

theorem exec_requestCommand (k : RequestKind) (a : Arrival (Option RequestFields)) (s : State) :
    exec (requestCommand k a) s = .next (s.intakeRequest k a.content a.meets) := by
  cases k <;> rfl

section
variable {s : State} {k : RequestKind} {f : RequestFields} {g : StoreFields}

/-- A discard gives the credit that was consumed back (R149, R151). -/
theorem State.consumed_discard (s : State) (p : Pool) (r : Reason) :
    (s.consumed p).discard p r = (s.passedThrough p).raise (.bridge .linkProtocol) (some r) := by
  unfold State.discard
  rw [State.consumed_returnCredit]

theorem State.intakeRequest_malformed (credit : s.HasCredit .request) {fields : Option RequestFields}
    (bad : ∀ f, fields = some f → requestWellFormed k f = false) (m : Meeting) :
    s.intakeRequest k fields m = (s.passedThrough .request).raise (.bridge .linkProtocol) (some .malformed) := by
  unfold State.intakeRequest
  rw [State.withCredit_pass credit, ← State.consumed_discard]
  cases fields with
  | none => rfl
  | some f => exact if_pos (bad f rfl)

theorem State.intakeRequest_tagInUse (credit : s.HasCredit .request) (wellFormed : requestWellFormed k f = true)
    (taken : BitVec.ofNat 6 f.tag.toNat ∈ s.tagsInForce) (m : Meeting) :
    s.intakeRequest k (some f) m = (s.passedThrough .request).raise (.bridge .linkProtocol) (some .tagInUse) := by
  unfold State.intakeRequest
  rw [State.withCredit_pass credit, ← State.consumed_discard]
  exact (if_neg (by simp [wellFormed])).trans (if_pos ((State.tagInForce_iff (s.consumed .request) _).2 taken))

/-- A request that passes the first three checks goes on to the lookup (R153). -/
theorem State.intakeRequest_routed (credit : s.HasCredit .request) (wellFormed : requestWellFormed k f = true)
    (free : BitVec.ofNat 6 f.tag.toNat ∉ s.tagsInForce) (m : Meeting) :
    s.intakeRequest k (some f) m = (s.consumed .request).routeRequest k f m := by
  unfold State.intakeRequest
  rw [State.withCredit_pass credit]
  exact (if_neg (by simp [wellFormed])).trans
    (if_neg (fun taken => free ((State.tagInForce_iff (s.consumed .request) _).1 taken)))

theorem State.intakeStore_malformed (credit : s.HasCredit .store) {fields : Option StoreFields}
    (bad : ∀ g, fields = some g → storeWellFormed g = false) (m : Meeting) :
    s.intakeStore fields m = (s.passedThrough .store).raise (.bridge .linkProtocol) (some .malformed) := by
  unfold State.intakeStore
  rw [State.withCredit_pass credit, ← State.consumed_discard]
  cases fields with
  | none => rfl
  | some g => exact if_pos (bad g rfl)

/-- A well-formed STORE goes on to the lookup: it has no tag (R151, R153). -/
theorem State.intakeStore_routed (credit : s.HasCredit .store) (wellFormed : storeWellFormed g = true) (m : Meeting) :
    s.intakeStore (some g) m = (s.consumed .store).routeStore g m := by
  unfold State.intakeStore
  rw [State.withCredit_pass credit]
  exact if_neg (by simp [wellFormed])

theorem State.intakeMgmtShort_malformed (credit : s.HasCredit .mgmt) :
    s.intakeMgmtShort = (s.passedThrough .mgmt).raise (.bridge .linkProtocol) (some .malformed) := by
  unfold State.intakeMgmtShort
  rw [State.withCredit_pass credit, State.consumed_discard]

theorem exec_unknownPacketKind (up : s.link.state = .up) {kind : Byte} (unknown : kind ∉ requestKinds)
    (body : List Byte) :
    exec (.unknownPacketKind kind body) s = .next (s.raise (.bridge .linkProtocol) (some .malformed)) := by
  have raised : s.intake (packetOf (kind :: body)) .nothing = s.raise (.bridge .linkProtocol) (some .malformed) := by
    rw [packetOf_unknownKind unknown]
    exact if_pos (by simp [State.isUp, up])
  exact congrArg _ raised

end

/-- Settles O16: the packets one by one, and the form of each kind. -/
theorem malformedPacketsAreDiscarded : Obligations.MalformedPacketsAreDiscarded := by
  intro s
  refine ⟨fun k a credit bad => ?_, fun a credit bad => congrArg _ (State.intakeStore_malformed credit bad a.meets),
    fun q credit => congrArg _ (State.intakeMgmtShort_malformed credit),
    fun kind body up unknown => exec_unknownPacketKind up unknown body, fun f => ?_, fun f => ?_, fun f => ?_,
    fun f => ?_⟩
  case refine_1 => rw [exec_requestCommand, State.intakeRequest_malformed credit bad]
  case refine_5 => simp [storeWellFormed_iff, rangeWellFormed_iff, blockSize, and_assoc]
  all_goals
    simp [requestWellFormed_iff, rangeWellFormed_iff, RequestKind.isPort, blockSize, dataWellFormed, and_assoc]

/-- Settles O17: the tag check stands behind the form check and ahead of the lookup. -/
theorem tagsInForceAreRefused : Obligations.TagsInForceAreRefused := by
  intro s k f meets credit wellFormed taken
  rw [exec_requestCommand, State.intakeRequest_tagInUse credit wellFormed taken]

end Sys2Proof.Machine

/-! PROOF. The outcomes of a request from the lookup on: refused, dropped, or appended to its bay's list and started (R36,
R44 to R47, R51, R153 to R156, R159). -/

namespace Sys2Proof.Machine

/-! ## Protection and admission -/

/-- The removal that overtakes a request is the step of its timer's expiry (R15; log 28). -/
theorem Overtaken.eq {s u : State} {b : BayId} {m : Meeting} (h : Overtaken s b m u) : u = s.overtake b m := by
  rcases h with ⟨other, rfl⟩ | ⟨rfl, removed⟩
  · cases m
    case removal => exact absurd rfl other
    all_goals rfl
  · injection removed with removed
    exact removed.symm

theorem BayState.refusal_noModule {x : BayState} (h : x ∈ [BayState.empty, .settling, .identifying]) :
    x.refusal = some .noModule :=
  (by decide : ∀ y ∈ [BayState.empty, .settling, .identifying], y.refusal = some .noModule) x h

theorem BayState.refusal_notReady {x : BayState}
    (h : x ∈ [BayState.unpowered, .powering, .resetting, .profiling, .faulted]) : x.refusal = some .notReady :=
  (by decide : ∀ y ∈ [BayState.unpowered, .powering, .resetting, .profiling, .faulted], y.refusal = some .notReady) x h

theorem BayState.refusal_quiesced {x : BayState} (h : x ∈ [BayState.quiescing, .quiesced]) :
    x.refusal = some .quiesced :=
  (by decide : ∀ y ∈ [BayState.quiescing, .quiesced], y.refusal = some .quiesced) x h

/-- The status with which a request that hit a window is refused, if it is: protection comes ahead of the state of the bay
(R154, R155). -/
def Window.refusal (w : Window) (isStore : Bool) (x : BayState) : Option AnswerStatus :=
  if w.protects isStore then some .protectedWindow else x.refusal

theorem Window.refusal_protected {w : Window} (readOnly : w.protect = .readOnly) (x : BayState) :
    w.refusal true x = some .protectedWindow :=
  if_pos (by simp [Window.protects, readOnly])

theorem Window.refusal_unprotected {w : Window} {isStore : Bool} (h : isStore = false ∨ w.protect = .writable)
    (x : BayState) : w.refusal isStore x = x.refusal := by
  refine if_neg ?_
  rcases h with h | h <;> simp [Window.protects, h]

theorem Window.refusal_eq_some {w : Window} {isStore : Bool} {x : BayState} {status : AnswerStatus} :
    w.refusal isStore x = some status ↔
      (w.protects isStore = true ∧ .protectedWindow = status) ∨ (w.protects isStore = false ∧ x.refusal = some status) := by
  unfold Window.refusal
  cases w.protects isStore <;> simp

theorem Window.refusal_eq_none {w : Window} {isStore : Bool} {x : BayState} :
    w.refusal isStore x = none ↔ w.protects isStore = false ∧ x.refusal = none := by
  unfold Window.refusal
  cases w.protects isStore <;> simp

/-- Protection is for stores: a fetch passes it through any window (R13). -/
theorem portStore_unprotected {k : RequestKind} {w : Window} (h : k ≠ .portStore ∨ w.protect = .writable) :
    (k == .portStore) = false ∨ w.protect = .writable :=
  h.imp_left (fun other => by simpa using other)

/-! ## The outcomes from the lookup on -/

section
variable {s u : State} {k : RequestKind} {f : RequestFields} {g : StoreFields} {w : Window} {m : Meeting}
  {status : AnswerStatus}

theorem State.routeRequest_unmapped (miss : lookupWindow s.windows k.isPort f.address.toNat = none) :
    s.routeRequest k f m = s.refuseRequest (newEntry k f none) .unmapped := by
  unfold State.routeRequest
  rw [miss]

theorem State.routeRequest_refused (hit : lookupWindow s.windows k.isPort f.address.toNat = some w)
    (overtaken : Overtaken s w.bay m u)
    (refused : w.refusal (k == .portStore) (u.bay w.bay).life.state = some status) :
    s.routeRequest k f m = u.refuseRequest (newEntry k f (some (w.translate f.address.toNat))) status := by
  unfold State.routeRequest
  rw [hit]
  dsimp only
  rw [← overtaken.eq]
  rcases Window.refusal_eq_some.1 refused with ⟨isProtected, rfl⟩ | ⟨unprotected, refused⟩
  · rw [if_pos isProtected]
  · rw [unprotected, refused]
    rfl

/-- A request that neither protection nor its bay refuses is appended (R155, R36). -/
theorem State.routeRequest_admitted (hit : lookupWindow s.windows k.isPort f.address.toNat = some w)
    (overtaken : Overtaken s w.bay m u)
    (admitted : w.refusal (k == .portStore) (u.bay w.bay).life.state = none) :
    s.routeRequest k f m = u.append w.bay (.request (newEntry k f (some (w.translate f.address.toNat)))) m := by
  obtain ⟨unprotected, ready⟩ := Window.refusal_eq_none.1 admitted
  unfold State.routeRequest
  rw [hit]
  dsimp only
  rw [← overtaken.eq, unprotected, ready]
  rfl

theorem State.routeStore_unmapped (miss : lookupWindow s.windows false g.address.toNat = none) :
    s.routeStore g m = (s.returnCredit .store).raise (.bridge .unmappedStore) none := by
  unfold State.routeStore
  rw [miss]

theorem State.routeStore_refused (hit : lookupWindow s.windows false g.address.toNat = some w)
    (overtaken : Overtaken s w.bay m u) (refused : w.refusal true (u.bay w.bay).life.state = some status) :
    s.routeStore g m = u.dropAtIntake w.bay status := by
  unfold State.routeStore
  rw [hit]
  dsimp only
  rw [← overtaken.eq]
  rcases Window.refusal_eq_some.1 refused with ⟨isProtected, rfl⟩ | ⟨unprotected, refused⟩
  · rw [if_pos isProtected]
  · rw [unprotected, refused]
    rfl

/-- A STORE that neither protection nor its bay refuses is appended (R155, R36). -/
theorem State.routeStore_admitted (hit : lookupWindow s.windows false g.address.toNat = some w)
    (overtaken : Overtaken s w.bay m u) (admitted : w.refusal true (u.bay w.bay).life.state = none) :
    s.routeStore g m = u.append w.bay (.store (newStore g (w.translate g.address.toNat))) m := by
  obtain ⟨unprotected, ready⟩ := Window.refusal_eq_none.1 admitted
  unfold State.routeStore
  rw [hit]
  dsimp only
  rw [← overtaken.eq, unprotected, ready]
  rfl

end

/-- Settles O19: the refusal of a request is that of protection, or that of the state of its bay. -/
theorem refusedRequestsBecomeAnswers : Obligations.RefusedRequestsBecomeAnswers := by
  intro s k f meets credit wellFormed free
  rw [exec_requestCommand, State.intakeRequest_routed credit wellFormed free]
  refine ⟨fun miss => congrArg _ (State.routeRequest_unmapped miss), fun w status u hit overtaken cause => ?_⟩
  have refused : w.refusal (k == .portStore) (u.bay w.bay).life.state = some status := by
    rcases cause with ⟨rfl, readOnly, rfl⟩ | ⟨unprotected, cause⟩
    · exact Window.refusal_protected readOnly _
    · rw [Window.refusal_unprotected (portStore_unprotected unprotected)]
      rcases cause with ⟨rfl, state⟩ | ⟨rfl, state⟩ | ⟨rfl, state⟩
      · exact BayState.refusal_noModule state
      · exact BayState.refusal_notReady state
      · exact BayState.refusal_quiesced state
  exact congrArg _ (State.routeRequest_refused hit overtaken refused)

/-- A store refused with a status is dropped with the reason of that status (R156). -/
theorem State.dropAtIntake_eq (u : State) (b : BayId) {status : AnswerStatus} {reason : Reason}
    (named : status.dropReason = some reason) :
    u.dropAtIntake b status = (u.returned .store).raise (.bay b .storeDropped) (some reason) := by
  unfold State.dropAtIntake State.dropStore
  rw [named]
  rfl

/-- Settles O20: the refusal of a STORE is that of protection, or that of the state of its bay. -/
theorem refusedStoresAreDropped : Obligations.RefusedStoresAreDropped := by
  intro s g meets credit wellFormed
  have routed : exec (.store ⟨some g, meets⟩) s = .next ((s.consumed .store).routeStore g meets) :=
    congrArg _ (State.intakeStore_routed credit wellFormed meets)
  rw [routed]
  refine ⟨fun miss => ?_, fun w reason u hit overtaken cause => ?_⟩
  · rw [State.routeStore_unmapped (s := s.consumed .store) miss, State.consumed_returnCredit]
  have refused : ∃ status, w.refusal true (u.bay w.bay).life.state = some status ∧ status.dropReason = some reason := by
    rcases cause with ⟨readOnly, rfl⟩ | ⟨writable, cause⟩
    · exact ⟨_, Window.refusal_protected readOnly _, rfl⟩
    · rw [Window.refusal_unprotected (.inr writable)]
      rcases cause with ⟨rfl, state⟩ | ⟨rfl, state⟩ | ⟨rfl, state⟩
      · exact ⟨_, BayState.refusal_noModule state, rfl⟩
      · exact ⟨_, BayState.refusal_notReady state, rfl⟩
      · exact ⟨_, BayState.refusal_quiesced state, rfl⟩
  obtain ⟨status, refused, named⟩ := refused
  rw [State.routeStore_refused (s := s.consumed .store) hit overtaken refused, State.dropAtIntake_eq u w.bay named]

/-! ## The append -/

@[simp] theorem State.consumed_answerOrder (s : State) (p : Pool) : (s.consumed p).answerOrder = s.answerOrder := rfl

/-- The entry of a request that has just been admitted, with its snapshot (R28, R31, R36). -/
def Entry.Fresh (e : Entry) (snap : Snapshot) : Prop := e.snap = some snap ∧ e.isQueued = true ∧ e.bytesDone = 0

section
variable {s u v t : State} {b : BayId} {e : Entry} {snap : Snapshot} {m : Meeting}

theorem State.append_waits (alone : commandAtAppend m = none) (busy : (u.bay b).engine.state ≠ .idle) :
    u.append b e m = u.setList b ((u.bay b).list ++ [e]) := by
  unfold State.append
  rw [State.takeAfterAppend_nothing alone]
  exact State.startRequest_nothing (.inl (by simpa using busy))

theorem State.append_starts (fresh : e.Fresh snap) (alone : commandAtAppend m = none)
    (idle : (u.bay b).engine.state = .idle) (work : (u.bay b).engine.work = .none) (empty : (u.bay b).list = [])
    (ready : (u.bay b).life.state = .ready) : u.append b e m = u.setBay b ((u.bay b).started e snap) := by
  obtain ⟨snapshot, queued, unmoved⟩ := fresh
  unfold State.append
  rw [State.takeAfterAppend_nothing alone, State.startRequest_started snapshot queued unmoved]
  · simp [State.setList, Bay.started]
  all_goals simp [idle, work, empty, ready]

/-- An append that meets an event is the event's own step, and then the start (R47). -/
theorem State.append_met {j : Instr} (met : commandAtAppend m = some j)
    (done : exec j (u.setList b ((u.bay b).list ++ [e])) = .next v) : u.append b e m = v.startRequest b := by
  rw [exec_commandAtAppend met] at done
  injection done with done
  unfold State.append
  rw [done]

/-- An event that takes the link out of UP is a departure, with replay exhaustion counted where it is the cause (R184, R187,
R189). -/
theorem LinkUnit.IsLost.leaves (lost : t.link.IsLost m) (up : t.link.state = .up) :
    ∃ l, t.takeAfterAppend m = (t.setLink l).leaveUp := by
  rcases lost with rfl | ⟨rfl, silence⟩ | ⟨rfl, timer, frames, attempts⟩
  · refine ⟨t.link, ?_⟩
    simp only [State.takeAfterAppend, State.takeSignalLoss, up]
    rfl
  · exact ⟨t.link, if_pos ⟨up, silence⟩⟩
  · exact ⟨t.link.countExhaustion, (if_pos ⟨up, timer, frames⟩).trans (if_neg (by omega))⟩

theorem LinkUnit.IsLost.not_removal {l : LinkUnit} (lost : l.IsLost m) : m ≠ .removal := by
  rintro rfl
  simp [LinkUnit.IsLost] at lost

/-- A link loss frees a request that was appended to an empty list, and counts it unanswered (R44, R46, R47). -/
theorem State.append_lost {x : OpenEntry} (queued : x.state = .queued) (up : u.link.state = .up)
    (noReset : u.mgmt.resetPending = false) (lost : u.link.IsLost m) (empty : (u.bay b).list = []) :
    ∃ l, u.append b (.request x) m =
      (u.setLink l).departUp.updLife b (fun y =>
        { y with
          unanswered :=
            min 65535 ((u.bay b).life.unanswered + (1 + u.answerOrder.countP (OpenEntry.namesBay b))) }) := by
  obtain ⟨l, leaves⟩ := LinkUnit.IsLost.leaves (t := u.setList b ((u.bay b).list ++ [.request x])) lost up
  refine ⟨l, ?_⟩
  have departs : (u.setList b ((u.bay b).list ++ [.request x])).takeAfterAppend m =
      ((u.setLink l).setList b (((u.setLink l).bay b).list ++ [.request x])).departUp :=
    leaves.trans (if_neg (by simp [noReset]))
  have answers : (u.setLink l).lostRequests b = u.answerOrder.countP (OpenEntry.namesBay b) := by
    simp [State.lostRequests, empty]
  unfold State.append
  rw [departs, State.departUp_appended_request _ _ _ queued, answers]
  exact State.startRequest_nothing (.inr (by simp [Bay.afterLinkLoss, empty]))

end

/-! ## The admission -/

section
variable {s u : State} {k : RequestKind} {f : RequestFields} {g : StoreFields} {w : Window} {m : Meeting}

theorem exec_requestCommand_admitted (credit : s.HasCredit .request) (wellFormed : requestWellFormed k f = true)
    (free : BitVec.ofNat 6 f.tag.toNat ∉ s.tagsInForce)
    (hit : lookupWindow s.windows k.isPort f.address.toNat = some w)
    (unprotected : k ≠ .portStore ∨ w.protect = .writable) (overtaken : Overtaken (s.consumed .request) w.bay m u)
    (ready : (u.bay w.bay).life.state = .ready) :
    exec (requestCommand k ⟨some f, m⟩) s =
      .next (u.append w.bay (.request (newEntry k f (some (w.translate f.address.toNat)))) m) := by
  have admitted : w.refusal (k == .portStore) (u.bay w.bay).life.state = none := by
    rw [Window.refusal_unprotected (portStore_unprotected unprotected), ready]
    rfl
  rw [exec_requestCommand, State.intakeRequest_routed credit wellFormed free,
    State.routeRequest_admitted (s := s.consumed .request) hit overtaken admitted]

theorem exec_store_admitted (credit : s.HasCredit .store) (wellFormed : storeWellFormed g = true)
    (hit : lookupWindow s.windows false g.address.toNat = some w) (writable : w.protect = .writable)
    (overtaken : Overtaken (s.consumed .store) w.bay m u) (ready : (u.bay w.bay).life.state = .ready) :
    exec (.store ⟨some g, m⟩) s =
      .next (u.append w.bay (.store (newStore g (w.translate g.address.toNat))) m) := by
  have admitted : w.refusal true (u.bay w.bay).life.state = none := by
    rw [Window.refusal_unprotected (.inr writable), ready]
    rfl
  exact congrArg _ ((State.intakeStore_routed credit wellFormed m).trans
    (State.routeStore_admitted hit overtaken admitted))

end

/-- Settles O21: an admitted request is an append of a fresh entry, which waits, starts, or meets its event first. -/
theorem admittedRequestsJoinBayList : Obligations.AdmittedRequestsJoinBayList := by
  intro s u i p w snap e meets packet credit overtaken ready
  obtain ⟨admitted, fresh, pool⟩ : exec i s = .next (u.append w.bay e meets) ∧ e.Fresh snap ∧ p = e.pool := by
    rcases packet with ⟨k, f, rfl, rfl, wellFormed, free, hit, unprotected, rfl, rfl⟩ |
      ⟨g, rfl, rfl, wellFormed, hit, writable, rfl, rfl⟩
    · exact ⟨exec_requestCommand_admitted credit wellFormed free hit unprotected overtaken ready, ⟨rfl, rfl, rfl⟩, rfl⟩
    · exact ⟨exec_store_admitted credit wellFormed hit writable overtaken ready, ⟨rfl, rfl, rfl⟩, rfl⟩
  rw [admitted]
  refine ⟨fun alone => ⟨fun busy => ?_, fun idle work empty => ?_⟩, fun j v met done => ⟨fun nothing => ?_,
    fun idle work list ready => ?_⟩, fun request noReset lost empty => ?_⟩
  · rw [State.append_waits alone busy]
  · rw [State.append_starts fresh alone idle work empty ready]
  · rw [State.append_met met done, State.startRequest_nothing nothing]
  · obtain ⟨snapshot, queued, unmoved⟩ := fresh
    rw [State.append_met met done, State.startRequest_started snapshot queued unmoved idle work list ready]
  · obtain ⟨x, rfl⟩ : ∃ x, e = .request x := by
      cases e with
      | store y => rw [request] at pool; cases pool
      | request x => exact ⟨x, rfl⟩
    have same : u = s.consumed p := (overtaken.resolve_right (fun h => lost.not_removal h.1)).2
    subst same
    obtain ⟨l, departed⟩ := State.append_lost (u := s.consumed p) (by simpa [Entry.isQueued] using fresh.2.1) credit.1
      noReset lost empty
    have empty : (s.bay w.bay).list = [] := empty
    refine ⟨_, congrArg _ departed, rfl, ?_, ?_, ?_⟩ <;> simp [Bay.afterLinkLoss, empty]

end Sys2Proof.Machine

/-! PROOF. The pending BRIDGE_RESET at each of its triggers (R174, R175). -/

namespace Sys2Proof.Machine

section
variable {s : State}

/-- The deferred reset is the power-on reset at the straps as they stand, but for the link epoch (R175). -/
theorem State.deferredReset_setLink (s : State) : s.deferredReset.setLink LinkUnit.reset = s.resetAll 0 s.straps := rfl

/-- What the link unit did ahead of the deferred reset leaves no trace, where it kept the epoch (R175). -/
theorem State.deferredReset_afterLink {l : LinkUnit} (epoch : l.epoch = s.link.epoch) :
    (s.setLink l).deferredReset = s.deferredReset :=
  State.deferredReset_congr epoch rfl rfl (fun _ => ⟨rfl, rfl, rfl⟩)

/-- The departure from UP keeps the link epoch, the straps and the lines, which are all that the reset depends on. -/
theorem State.deferredReset_afterDepartUp (s : State) : s.departUp.deferredReset = s.deferredReset := by
  refine State.deferredReset_congr rfl rfl rfl (fun c => ?_)
  rw [State.departUp_bay]
  exact ⟨rfl, rfl, rfl⟩

/-- A pending reset is carried out as the link leaves UP (R174, R189). -/
theorem State.leaveUp_pending (pending : s.mgmt.resetPending = true) : s.leaveUp = s.deferredReset :=
  (if_pos pending).trans s.deferredReset_afterDepartUp

theorem State.takeSignalLoss_up (up : s.link.state = .up) : s.takeSignalLoss = s.leaveUp := by
  unfold State.takeSignalLoss
  rw [up]

theorem State.takeReplayExpiry_pending (pending : s.mgmt.resetPending = true) (up : s.link.state = .up)
    (timer : s.link.timers.replay = true) (frames : s.link.replay ≠ []) (attempts : 3 ≤ s.link.attempts) :
    s.takeReplayExpiry = s.deferredReset := by
  have exhausted : s.takeReplayExpiry = (s.setLink s.link.countExhaustion).leaveUp :=
    (if_pos ⟨up, timer, frames⟩).trans (if_neg (by omega))
  rw [exhausted, State.leaveUp_pending (s := s.setLink s.link.countExhaustion) pending]
  exact State.deferredReset_afterLink rfl

/-- The acknowledgement of the response's frame carries out the pending reset (R174). -/
theorem State.takeAck_pending {n f : LinkSeq} (pending : s.mgmt.resetPending = true)
    (frame : s.mgmt.resetFrame = some f) (acks : holdsSeq n s.link.replay = true)
    (held : holdsSeq f s.link.replay = true) (removed : holdsSeq f (framesAfter n s.link.replay) = false) :
    s.takeAck n = s.deferredReset := by
  have acked : (s.setLink s.link.activity).resetAcked n = true := by
    simp [State.resetAcked, LinkUnit.activity, frame, pending, held, removed]
  calc s.takeAck n
    _ = ((s.setLink s.link.activity).setLink (s.link.activity.acked n)).deferredReset :=
      (if_pos acks).trans (if_pos acked)
    _ = s.deferredReset := State.deferredReset_afterLink rfl

end

/-- Settles O4: at each trigger the next state is the deferred reset of the state that the trigger meets. -/
theorem pendingResetIsCarriedOut : Obligations.PendingResetIsCarriedOut := by
  intro i s pending trigger
  refine ⟨s.deferredReset, ?_, rfl, rfl, congrArg Host.Outcome.next s.deferredReset_setLink.symm⟩
  rcases trigger with ⟨rfl, timer⟩ | ⟨n, f, rfl, up, frame, acks, held, removed⟩ | ⟨rfl, up⟩ | ⟨rfl, up, silence⟩ |
    ⟨rfl, up, timer, frames, attempts⟩
  · exact congrArg _ (if_pos (Bool.and_eq_true_iff.2 ⟨timer, pending⟩))
  · exact congrArg _ ((if_pos up).trans (State.takeAck_pending pending frame acks held removed))
  · exact congrArg _ ((State.takeSignalLoss_up up).trans (State.leaveUp_pending pending))
  · exact congrArg _ ((if_pos ⟨up, silence⟩).trans (State.leaveUp_pending pending))
  · exact congrArg _ (State.takeReplayExpiry_pending pending up timer frames attempts)

end Sys2Proof.Machine

/-! PROOF. The management protocol: the repeated number (R162), the refusals BAD_COMMAND and BAD_OPERAND (R164, R165), and
the commands BAY_POLICY and BRIDGE_RESET (R95, R173). -/

namespace Sys2Proof

theorem BayId.code_toNat (b : BayId) : b.code.toNat = b.toNat := by
  cases b <;> rfl

end Sys2Proof

namespace Sys2Proof.Machine

/-! ## The repeated number -/

/-- A packet that repeats the last number offers the last response again, whatever its command is (R162). -/
theorem State.intakeMgmt_repeated {s : State} {q : Byte} (credit : s.HasCredit .mgmt)
    (repeated : s.mgmt.last.map MgmtResp.seq = some q) (command : State → CommandResult) :
    s.intakeMgmt q command = (s.consumed .mgmt).setMgmt { s.mgmt with busy := true } :=
  (State.withCredit_pass credit _).trans (if_pos repeated)

/-- Settles O41: every row of a packet is the acceptance of its code and operands, and an acceptance looks at the number
first. -/
theorem repeatedNumberReplaysResponse : Obligations.RepeatedNumberReplaysResponse := by
  intro s i q code o fields
  rw [exec_mgmtFields fields, exec_mgmtFields (i := .mgmtSequenceReplay q code o) rfl]
  exact ⟨rfl, fun credit repeated => congrArg _ (State.intakeMgmt_repeated credit repeated _)⟩

/-! ## Operand bytes out of range -/

section
variable {x : Byte}

theorem yesNoOperand_none (h : 2 ≤ x.toNat) : yesNoOperand x = none := by
  unfold yesNoOperand
  split
  · omega
  · omega
  · rfl

theorem removalPolicyOperand_none (h : 2 ≤ x.toNat) : removalPolicyOperand x = none := by
  unfold removalPolicyOperand
  split
  · omega
  · omega
  · rfl

theorem accessTimerOperand_none (h : x.toNat < 2) : accessTimerOperand x = none := if_neg (by omega)

theorem supplyOperand_none (h : x ≠ 1 ∧ x ≠ 2) : supplyOperand x = none := by
  unfold supplyOperand
  split
  next code => exact absurd (BitVec.eq_of_toNat_eq code) h.1
  next code => exact absurd (BitVec.eq_of_toNat_eq code) h.2
  next => rfl

theorem modeOperand_none (h : 2 ≤ x.toNat) : modeOperand x = none := by
  unfold modeOperand
  split
  · omega
  · omega
  · rfl

theorem sourceOperand_eq_some {source : Source} : sourceOperand x = some source ↔ x = source.code := by
  refine ⟨fun h => BitVec.eq_of_toNat_eq ?_, fun h => h ▸ sourceOperand_code source⟩
  unfold sourceOperand at h
  split at h
  next code =>
    cases h
    exact code
  next =>
    obtain ⟨b, named, rfl⟩ := Option.map_eq_some_iff.1 h
    exact (bayOperand_eq_some.1 named).symm.trans b.code_toNat.symm

theorem sourceOperand_none (h : 7 ≤ x.toNat) : sourceOperand x = none := by
  refine Option.eq_none_iff_forall_ne_some.2 (fun source named => ?_)
  rw [sourceOperand_eq_some.1 named] at h
  cases source with
  | bay b => exact absurd (b.code_toNat ▸ h : 7 ≤ b.toNat) (by have := b.toNat_lt; omega)
  | bridge => exact absurd h (by decide)

end

/-- A set of kinds that is larger than the set of all of them holds a foreign one (R142). -/
theorem and_not_ne_zero_of_lt {all kinds : BitVec 8} (h : all.toNat < kinds.toNat) : kinds &&& ~~~all ≠ 0#8 := by
  intro own
  have within : kinds = kinds &&& all := by
    ext i bound
    have bit := congrArg (fun v => v[i]) own
    simpa using bit
  have := congrArg BitVec.toNat within
  rw [BitVec.toNat_and] at this
  exact absurd (this ▸ Nat.and_le_right) (Nat.not_le.2 h)

/-- A source is refused, or a set with a foreign kind: past bit 6 for a bay, past bit 2 for BRIDGE (R131, R142). -/
theorem kindsOperand_none {x k : Byte}
    (h : 7 ≤ x.toNat ∨ (x.toNat < 6 ∧ k.getLsbD 7 = true) ∨ (x.toNat = 6 ∧ 8 ≤ k.toNat)) : kindsOperand x k = none := by
  unfold kindsOperand
  split
  next => rfl
  next source named =>
    refine if_neg (and_not_ne_zero_of_lt ?_)
    obtain rfl := sourceOperand_eq_some.1 named
    cases source with
    | bay b =>
      have code : (Source.bay b).code.toNat = b.toNat := b.code_toNat
      have := b.toNat_lt
      obtain ⟨_, foreign⟩ : _ ∧ k.getLsbD 7 = true := (h.resolve_left (by omega)).resolve_right (by omega)
      exact BitVec.toNat_ge_of_msb_true ((BitVec.msb_eq_getLsbD_last k).trans foreign)
    | bridge =>
      exact ((h.resolve_left (by decide)).resolve_left (fun bay => absurd bay.1 (by decide))).2

theorem kindsOperand_eq_some {x k : Byte} {source : Source} {kinds : BitVec 8}
    (h : kindsOperand x k = some (source, kinds)) : x = source.code ∧ k = kinds := by
  unfold kindsOperand at h
  split at h
  next => cases h
  next named =>
    split at h
    next =>
      injection h with h
      injection h with same set
      subst same set
      exact ⟨sourceOperand_eq_some.1 named, rfl⟩
    next => cases h

/-- EVENT_INJECT names an event by the code of its source and the mask of its kind, and by nothing else (R142). -/
theorem eventInjectOperands_eq_some {o : List Byte} {e : EventId} :
    eventInjectOperands o = some e ↔ o = [e.source.code, e.mask] := by
  refine ⟨fun h => ?_, fun h => h ▸ eventInjectOperands_own e⟩
  unfold eventInjectOperands at h
  split at h
  next x k =>
    split at h
    next => cases h
    next source kinds own =>
      obtain ⟨rfl, rfl⟩ := kindsOperand_eq_some own
      have mask : e.mask = k := by simpa using List.find?_some h
      rw [(source.mem_events e).1 (List.mem_of_find?_eq_some h), mask]
  next => cases h

/-! ## Operand lists that are refused (R165, R166) -/

section
variable {o : List Byte}

theorem noOperands_none (h : o ≠ []) : noOperands o = none := by
  cases o with
  | nil => exact absurd rfl h
  | cons x rest => rfl

theorem oneOperand_none {α : Type} {read : Byte → Option α} (h : ∀ x, o = [x] → read x = none) :
    oneOperand read o = none := by
  unfold oneOperand
  split
  next x => exact h x rfl
  next => rfl

theorem bayPolicyOperands_none
    (h : ∀ b a r t : Byte, o = [b, a, r, t] → 6 ≤ b.toNat ∨ 2 ≤ a.toNat ∨ 2 ≤ r.toNat ∨ t.toNat < 2) :
    bayPolicyOperands o = none := by
  unfold bayPolicyOperands
  split
  next b a r t =>
    split
    next bay autoPower removal timer =>
      rcases h b a r t rfl with out | out | out | out
      · cases bay.symm.trans (bayOperand_none out)
      · cases autoPower.symm.trans (yesNoOperand_none out)
      · cases removal.symm.trans (removalPolicyOperand_none out)
      · cases timer.symm.trans (accessTimerOperand_none out)
    next => rfl
  next => rfl

theorem powerOnOperands_none (h : ∀ b c : Byte, o = [b, c] → 6 ≤ b.toNat ∨ (c ≠ 1 ∧ c ≠ 2)) :
    powerOnOperands o = none := by
  unfold powerOnOperands
  split
  next b c =>
    split
    next bay supply =>
      rcases h b c rfl with out | out
      · cases bay.symm.trans (bayOperand_none out)
      · cases supply.symm.trans (supplyOperand_none out)
    next => rfl
  next => rfl

theorem quiesceOperands_none (h : ∀ b m : Byte, o = [b, m] → 6 ≤ b.toNat ∨ 2 ≤ m.toNat) : quiesceOperands o = none := by
  unfold quiesceOperands
  split
  next b m =>
    split
    next bay mode =>
      rcases h b m rfl with out | out
      · cases bay.symm.trans (bayOperand_none out)
      · cases mode.symm.trans (modeOperand_none out)
    next => rfl
  next => rfl

theorem eventKindsOperands_none
    (h : ∀ x k : Byte, o = [x, k] →
      7 ≤ x.toNat ∨ (x.toNat < 6 ∧ k.getLsbD 7 = true) ∨ (x.toNat = 6 ∧ 8 ≤ k.toNat)) :
    eventKindsOperands o = none := by
  unfold eventKindsOperands
  split
  next x k => exact kindsOperand_none (h x k rfl)
  next => rfl

/-- No kind, several kinds, and a foreign kind are refused alike: none is the mask of one event of the source (R142). -/
theorem eventInjectOperands_none
    (h : ∀ x k : Byte, o = [x, k] →
      7 ≤ x.toNat ∨ (x.toNat < 6 ∧ k ∉ [0x01#8, 0x02#8, 0x04#8, 0x08#8, 0x10#8, 0x20#8, 0x40#8]) ∨
      (x.toNat = 6 ∧ k ∉ [0x01#8, 0x02#8, 0x04#8])) :
    eventInjectOperands o = none := by
  refine Option.eq_none_iff_forall_ne_some.2 (fun e accepted => ?_)
  have out := h _ _ (eventInjectOperands_eq_some.1 accepted)
  cases e with
  | bay b kind =>
    have code : (EventId.bay b kind).source.code.toNat = b.toNat := b.code_toNat
    have := b.toNat_lt
    refine absurd ((out.resolve_left (by omega)).resolve_right (by omega)).2 (not_not_intro ?_)
    cases kind <;> simp [EventId.mask, EventId.bit, BayKind.bit]
  | bridge kind =>
    have code : (EventId.bridge kind).source.code.toNat = 6 := rfl
    refine absurd ((out.resolve_left (by omega)).resolve_left (by omega)).2 (not_not_intro ?_)
    cases kind <;> simp [EventId.mask, EventId.bit, BridgeKind.bit]

end

/-! ## The refusals -/

theorem commandOf_none {code : Byte} (h : code ∉ commandCodes) : commandOf code = none := by
  simp_all [commandCodes, commandOf]

/-- A code outside the table is answered BAD_COMMAND (R165). -/
theorem exec_unknownCommand {s : State} {q code : Byte} {o : List Byte} (accepts : s.AcceptsMgmt q)
    (unknown : code ∉ commandCodes) : exec (.unknownCommand q code o) s = .next (s.responded q .badCommand []) := by
  refine congrArg _ (State.intakeMgmt_refuse accepts _ _ ?_)
  simp only [commandByCode, commandOf_none unknown]

/-- A command whose operands have no reading is answered BAD_OPERAND (R165). -/
theorem exec_badOperand {s : State} {q : Byte} {i : Instr} {command : State → CommandResult} (accepts : s.AcceptsMgmt q)
    (arrives : exec i s = .next (s.intakeMgmt q command)) (refuses : ∀ u, command u = u.refuse .badOperand) :
    exec i s = .next (s.responded q .badOperand []) :=
  arrives.trans (congrArg _ (State.intakeMgmt_refuse accepts _ _ (refuses _)))

/-- Settles O42: a code without a command, and command by command an operand list without a reading. -/
theorem badCommandsAreRefused : Obligations.BadCommandsAreRefused := by
  intro s q o accepts
  refine ⟨fun code unknown => exec_unknownCommand accepts unknown, fun i bad => ?_⟩
  rcases bad with ⟨which, h⟩ | ⟨rfl, h⟩ | ⟨which, h⟩ | ⟨which, h⟩ | ⟨rfl, h⟩ | ⟨rfl, h⟩ | ⟨rfl, h⟩ | ⟨rfl, h⟩ |
    ⟨which, h⟩ | ⟨rfl, h⟩ | ⟨rfl, h⟩
  · have unread := noOperands_none h
    rcases which with rfl | rfl
    · exact exec_badOperand accepts rfl (fun _ => by simp only [commandIdentify, unread])
    · exact exec_badOperand accepts rfl (fun _ => by simp only [commandBridgeReset, unread])
  · exact exec_badOperand accepts rfl (fun _ => by simp only [commandWindowWrite, h])
  · have unread := oneOperand_none (fun x is => indexOperand_none (h x is))
    rcases which with rfl | rfl
    · exact exec_badOperand accepts rfl (fun _ => by simp only [commandWindowRead, unread])
    · exact exec_badOperand accepts rfl (fun _ => by simp only [commandWindowClear, unread])
  · have unread := oneOperand_none (fun x is => bayOperand_none (h x is))
    rcases which with rfl | rfl | rfl
    · exact exec_badOperand accepts rfl (fun _ => by simp only [commandWindowClearBay, unread])
    · exact exec_badOperand accepts rfl (fun _ => by simp only [commandBayStatus, unread])
    · exact exec_badOperand accepts rfl (fun _ => by simp only [commandBayRestart, unread])
  · exact exec_badOperand accepts rfl (fun _ => by simp only [commandBayPolicy, bayPolicyOperands_none h])
  · exact exec_badOperand accepts rfl (fun _ => by simp only [commandPowerOn, powerOnOperands_none h])
  · exact exec_badOperand accepts rfl (fun _ => by simp only [commandQuiesce, quiesceOperands_none h])
  · have unread := oneOperand_none (fun x is => sourceOperand_none (h x is))
    exact exec_badOperand accepts rfl (fun _ => by simp only [commandEventRead, unread])
  · have unread := eventKindsOperands_none h
    rcases which with rfl | rfl
    · exact exec_badOperand accepts rfl (fun _ => by simp only [commandEventEnable, unread])
    · exact exec_badOperand accepts rfl (fun _ => by simp only [commandEventClear, unread])
  · exact exec_badOperand accepts rfl (fun _ => by simp only [commandEventInject, eventInjectOperands_none h])
  · have unread := oneOperand_none (fun x is => yesNoOperand_none (h x is))
    exact exec_badOperand accepts rfl (fun _ => by simp only [commandCountersRead, unread])

/-! ## BAY_POLICY and BRIDGE_RESET -/

theorem yesNoOperand_boolCode (v : Bool) : yesNoOperand (boolCode v) = some v := by
  cases v <;> rfl

theorem removalPolicyOperand_boolCode (clear : Bool) :
    removalPolicyOperand (boolCode clear) = some (if clear then .clear else .keep) := by
  cases clear <;> rfl

theorem bayPolicyOperands_of {x timer : Byte} {b : BayId} (bay : x.toNat = b.toNat) (range : 2 ≤ timer.toNat)
    (autoPower clear : Bool) :
    bayPolicyOperands [x, boolCode autoPower, boolCode clear, timer] =
      some (b, { autoPower := autoPower, windowsOnRemoval := if clear then .clear else .keep,
                 accessTimer := timer.toNat }) := by
  have accessTimer : accessTimerOperand timer = some timer.toNat := if_pos range
  simp only [bayPolicyOperands, bayOperand_of bay, yesNoOperand_boolCode, removalPolicyOperand_boolCode, accessTimer]

/-- An accepted BAY_POLICY replaces the policy of its bay as one change, in every state of the bay (R95). -/
theorem exec_bayPolicy {s : State} {q : Byte} {o : List Byte} {b : BayId} {policy : Policy} (accepts : s.AcceptsMgmt q)
    (operands : bayPolicyOperands o = some (b, policy)) :
    exec (.bayPolicy q o) s = .next ((s.updLife b (fun l => { l with policy := policy })).responded q .done []) := by
  refine congrArg _ (State.intakeMgmt_done accepts _ _ _ ?_)
  simp only [commandBayPolicy, operands]
  rfl

/-- An accepted BRIDGE_RESET is pending from then on (R173). -/
theorem exec_bridgeReset {s : State} {q : Byte} (accepts : s.AcceptsMgmt q) :
    exec (.bridgeReset q []) s = .next ((s.setMgmt { s.mgmt with resetPending := true }).responded q .done []) :=
  congrArg _ (State.intakeMgmt_done accepts _ (s.setMgmt { s.mgmt with resetPending := true }) _ rfl)

/-- Settles O46, from the operands of BAY_POLICY; BRIDGE_RESET has none. -/
theorem policyAndResetCommandsAreDone : Obligations.PolicyAndResetCommandsAreDone := fun _ _ accepts =>
  ⟨fun _ _ _ autoPower clear bay range => exec_bayPolicy accepts (bayPolicyOperands_of bay range autoPower clear),
   exec_bridgeReset accepts⟩

end Sys2Proof.Machine

/-! SUPPORT. The transmitter, the replay list and the control frames of the link unit: what each operation does, in each
of its cases (R182, R183, R185 to R187). -/

namespace Sys2Proof.Machine

/-! ## The transmitter -/

section
variable {t : Transmitter}

/-- While a frame is under transmission no other begins. -/
theorem Transmitter.begin_busy {sent : WireFrame} (busy : t.current = some sent) : t.begin = t := by
  unfold Transmitter.begin
  rw [busy]

theorem Transmitter.begin_control {c : WireFrame} {rest : List WireFrame} (free : t.current = none)
    (control : t.control = c :: rest) : t.begin = { t with current := some c, control := rest } := by
  simp only [Transmitter.begin, free, control]

theorem Transmitter.begin_retransmit {f : Frame} {rest : List Frame} (free : t.current = none)
    (control : t.control = []) (retransmit : t.retransmit = f :: rest) :
    t.begin = { t with current := some (.sequenced f), retransmit := rest } := by
  simp only [Transmitter.begin, free, control, retransmit]

theorem Transmitter.begin_fresh {f : Frame} {rest : List Frame} (free : t.current = none)
    (control : t.control = []) (retransmit : t.retransmit = []) (fresh : t.fresh = f :: rest) :
    t.begin = { t with current := some (.sequenced f), fresh := rest } := by
  simp only [Transmitter.begin, free, control, retransmit, fresh]

theorem Transmitter.begin_nothing (control : t.control = []) (retransmit : t.retransmit = [])
    (fresh : t.fresh = []) : t.begin = t := by
  unfold Transmitter.begin
  split
  next => rfl
  next => rw [control, retransmit, fresh]

/-- After the choice of the next frame, a transmitter with nothing under transmission has nothing that waits (R185). -/
theorem Transmitter.begin_eq_idle (free : t.begin.current = none) : t.begin = .idle := by
  cases current : t.current with
  | some sent =>
    rw [Transmitter.begin_busy current, current] at free
    cases free
  | none =>
    cases control : t.control with
    | cons c rest => rw [Transmitter.begin_control current control] at free; cases free
    | nil =>
      cases retransmit : t.retransmit with
      | cons f rest => rw [Transmitter.begin_retransmit current control retransmit] at free; cases free
      | nil =>
        cases fresh : t.fresh with
        | cons f rest => rw [Transmitter.begin_fresh current control retransmit fresh] at free; cases free
        | nil =>
          rw [Transmitter.begin_nothing control retransmit fresh]
          show Transmitter.mk t.current t.control t.retransmit t.fresh = .idle
          rw [current, control, retransmit, fresh]
          rfl

/-- A control frame joins those that wait behind the last that is not behind it in rank (R185). -/
theorem insertControl_between {x : WireFrame} {before after : List WireFrame} (behind : ∀ y ∈ before, y.rank ≤ x.rank)
    (ahead : ∀ y, after.head? = some y → x.rank < y.rank) :
    insertControl x (before ++ after) = before ++ x :: after := by
  induction before with
  | nil =>
    cases after with
    | nil => rfl
    | cons y rest => exact if_pos (ahead y rfl)
  | cons y before ih =>
    have stays : ¬ x.rank < y.rank := Nat.not_lt.2 (behind y List.mem_cons_self)
    calc insertControl x (y :: before ++ after)
      _ = y :: insertControl x (before ++ after) := if_neg stays
      _ = y :: (before ++ x :: after) := by rw [ih (fun z mem => behind z (List.mem_cons_of_mem y mem))]

end

/-! ## The replay list -/

section
variable {n : LinkSeq} {l : List Frame}

theorem holdsSeq_iff : holdsSeq n l = true ↔ ∃ f ∈ l, f.seq = n := by
  simp [holdsSeq]

theorem holdsSeq_eq_false_iff : holdsSeq n l = false ↔ ∀ f ∈ l, f.seq ≠ n := by
  simp [holdsSeq]

/-- The frames from the first that has the number (R186). -/
theorem framesFrom_split {before after : List Frame} {f : Frame} (number : f.seq = n)
    (first : ∀ g ∈ before, g.seq ≠ n) : framesFrom n (before ++ f :: after) = f :: after := by
  induction before with
  | nil => exact if_pos number
  | cons g before ih =>
    exact (if_neg (first g List.mem_cons_self)).trans (ih (fun x mem => first x (List.mem_cons_of_mem g mem)))

theorem framesFrom_isSuffix (n : LinkSeq) (l : List Frame) : framesFrom n l <:+ l := by
  induction l with
  | nil => exact List.suffix_rfl
  | cons f rest ih =>
    unfold framesFrom
    split
    next => exact List.suffix_rfl
    next => exact ih.trans (List.suffix_cons f rest)

theorem framesAfter_isSuffix (n : LinkSeq) (l : List Frame) : framesAfter n l <:+ l :=
  (List.drop_suffix 1 _).trans (framesFrom_isSuffix n l)

theorem RunsUpTo.of_isSuffix {next : LinkSeq} {l m : List Frame} (runs : RunsUpTo next l) (suffix : m <:+ l) :
    RunsUpTo next m := by
  obtain ⟨before, rfl⟩ := suffix
  induction before with
  | nil => exact runs
  | cons f before ih => exact ih runs.2

/-- A frame that takes the next number joins the run (R185). -/
theorem RunsUpTo.append {next : LinkSeq} {l : List Frame} (runs : RunsUpTo next l) (p : UpPacket) :
    RunsUpTo (next + 1) (l ++ [⟨next, p⟩]) := by
  induction l with
  | nil => exact ⟨(BitVec.add_sub_cancel next 1).symm, trivial⟩
  | cons f rest ih =>
    obtain ⟨number, tail⟩ := runs
    refine ⟨?_, ih tail⟩
    have longer : (rest ++ [Frame.mk next p]).length = rest.length + 1 := List.length_append
    show f.seq = next + 1 - BitVec.ofNat 12 ((rest ++ [Frame.mk next p]).length + 1)
    rw [number, longer, BitVec.ofNat_add (rest.length + 1) 1]
    exact (add_sub_add_right_eq_sub _ _ _).symm

end

/-! ## The control frames of the link unit -/

section
variable {l : LinkUnit}

/-- The first RESEND since the last acceptance (R182). -/
theorem LinkUnit.sendResend_first (first : l.resendSent = false) :
    l.sendResend =
      { l with tx := l.tx.sendControl (.resend l.receiveExpected), resendSent := true,
               counters := { l.counters with resendsSent := satSucc 65535 l.counters.resendsSent } } := by
  simp [LinkUnit.sendResend, first]

theorem LinkUnit.sendResend_again (again : l.resendSent = true) : l.sendResend = l :=
  if_pos again

/-- An acceptance that leaves at most three frames owed (R183). -/
theorem LinkUnit.accept_few (few : l.ackOwed < 3) :
    l.accept =
      { l with receiveExpected := l.receiveExpected + 1, ackOwed := l.ackOwed + 1, resendSent := false,
               timers := { l.timers with ack := true } } :=
  if_neg (Nat.not_le.2 (Nat.succ_lt_succ few))

/-- The acceptance of the fourth frame since the last ACK acknowledges it at once (R183). -/
theorem LinkUnit.accept_fourth (fourth : 3 ≤ l.ackOwed) :
    l.accept =
      { l with receiveExpected := l.receiveExpected + 1, ackOwed := 0, resendSent := false,
               timers := { l.timers with ack := false },
               tx := l.tx.sendControl (.ack l.receiveExpected) } := by
  unfold LinkUnit.accept
  rw [if_pos (Nat.succ_le_succ fourth)]
  simp [LinkUnit.sendAck]

/-- A RESEND for a frame of the replay list retransmits from it on (R186). -/
theorem LinkUnit.takeResend_held {n : LinkSeq} (held : holdsSeq n l.replay = true) :
    l.takeResend n =
      { l with timers := { l.timers with silence := true }, tx := l.tx.sendAgain (framesFrom n l.replay),
               counters := { l.counters with resendsReceived := satSucc 65535 l.counters.resendsReceived } } :=
  if_pos held

theorem LinkUnit.takeResend_unheld {n : LinkSeq} (unheld : holdsSeq n l.replay = false) :
    l.takeResend n =
      { l with timers := { l.timers with silence := true },
               counters := { l.counters with resendsReceived := satSucc 65535 l.counters.resendsReceived } } :=
  if_neg (by simpa [LinkUnit.activity] using unheld)

end

end Sys2Proof.Machine

/-! PROOF. Every step keeps the laws of the link unit (R177 to R190): first each operation of the link unit, then the
operations of the other blocks, which count an overrun, clear the counters, place a frame or take the link down. -/

namespace Sys2Proof.Machine

/-! ## The counters and the transmitter -/

theorem satSucc_le {n : Nat} (h : n ≤ 65535) : satSucc 65535 n ≤ 65535 := by
  unfold satSucc
  split <;> omega

section
variable {l : LinkUnit}

/-- Wherever the transmitter has chosen the next frame, nothing waits without a frame under transmission (R185). -/
theorem transmitterLaw_of_begin {t : Transmitter} (tx : l.tx = t.begin) (sends : l.state ≠ .down) :
    TransmitterLaw l := by
  refine ⟨fun free => ?_, fun down => absurd down sends⟩
  rw [tx] at free ⊢
  exact Transmitter.begin_eq_idle free

theorem LinkLaw.setCounters (h : LinkLaw l) {c : LinkCounters} (counters : CounterLaw c) :
    LinkLaw { l with counters := c } := by
  obtain ⟨replay, ack, timers, transmitter, _⟩ := h
  exact ⟨replay, ack, timers, transmitter, counters⟩

theorem LinkLaw.counterLaw (h : LinkLaw l) : CounterLaw l.counters := by
  obtain ⟨_, _, _, _, counters⟩ := h
  exact counters

theorem LinkLaw.countBad (h : LinkLaw l) : LinkLaw l.countBad := by
  obtain ⟨bad, rest⟩ := h.counterLaw
  exact h.setCounters ⟨satSucc_le bad, rest⟩

/-! ## Control frames -/

theorem LinkLaw.sendTrain (h : LinkLaw l) (sends : l.state ≠ .down) : LinkLaw l.sendTrain := by
  obtain ⟨replay, ack, timers, _, counters⟩ := h
  exact ⟨replay, ack, timers, transmitterLaw_of_begin rfl sends, counters⟩

theorem LinkLaw.sendAck (h : LinkLaw l) (up : l.state = .up) : LinkLaw l.sendAck := by
  obtain ⟨replay, ⟨_, _, off⟩, timers, _, counters⟩ := h
  have ack : AckLaw l.sendAck := ⟨Nat.zero_le 3, by simp [LinkUnit.sendAck], fun out => ⟨rfl, (off out).2⟩⟩
  exact ⟨replay, ack, timers, transmitterLaw_of_begin rfl (by simp [LinkUnit.sendAck, up]), counters⟩

theorem LinkLaw.sendResend (h : LinkLaw l) (up : l.state = .up) : LinkLaw l.sendResend := by
  cases sent : l.resendSent with
  | true => rwa [LinkUnit.sendResend_again sent]
  | false =>
    rw [LinkUnit.sendResend_first sent]
    obtain ⟨replay, ⟨owed, timer, _⟩, timers, _, bad, resends, others⟩ := h
    exact ⟨replay, ⟨owed, timer, fun out => absurd up out⟩, timers, transmitterLaw_of_begin rfl (by simp [up]),
      bad, satSucc_le resends, others⟩

theorem LinkLaw.sendIdle (h : LinkLaw l) (up : l.state = .up) : LinkLaw l.sendIdle := by
  obtain ⟨replay, ack, ⟨holdOff, training, interval, silence, _⟩, _, counters⟩ := h
  exact ⟨replay, ack, ⟨holdOff, training, interval, silence, fun runs => by cases runs⟩,
    transmitterLaw_of_begin rfl (by simp [LinkUnit.sendIdle, up]), counters⟩

/-- The end of a frame; a transmitter that has one under way is not in DOWN. -/
theorem LinkLaw.frameEnd (h : LinkLaw l) (busy : l.tx.current.isSome = true) : LinkLaw l.frameEnd := by
  obtain ⟨replay, ack, ⟨holdOff, training, interval, silence, keepalive⟩, ⟨_, idle⟩, counters⟩ := h
  have sends : l.state ≠ .down := fun down => by rw [idle down] at busy; cases busy
  have timers : LinkTimerLaw l.frameEnd := by
    refine ⟨holdOff, training, interval, silence, fun runs => ?_⟩
    rcases Bool.or_eq_true_iff.1 runs with ran | up
    · exact keepalive ran
    · exact beq_iff_eq.1 up
  exact ⟨replay, ack, timers, transmitterLaw_of_begin (t := { l.tx with current := none }) rfl sends, counters⟩

/-! ## Training, and the entry to UP -/

theorem LinkLaw.enterTraining (h : LinkLaw l) (down : l.state = .down) : LinkLaw l.enterTraining := by
  obtain ⟨⟨room, runs, empty, timer, attempts⟩, ⟨owed, ackTimer, off⟩, ⟨_, _, _, silence, keepalive⟩,
    ⟨free, _⟩, counters⟩ := h
  have out : l.state ≠ .up := by rw [down]; decide
  have quiet : l.timers.silence = false := by simpa [out] using silence
  have keeps : l.timers.keepalive = false := by simpa [out] using keepalive
  refine LinkLaw.sendTrain ⟨⟨room, runs, fun _ => empty out, timer, attempts⟩, ⟨owed, ackTimer, fun _ => off out⟩, ?_,
    ⟨free, fun h => by cases h⟩, counters⟩ (by simp)
  simp [LinkTimerLaw, quiet, keeps]

/-- The TRAIN frames counted are under no law. -/
theorem LinkLaw.countTrain (h : LinkLaw l) (ready : Bool) : LinkLaw (l.countTrain ready) := h

theorem LinkLaw.entered (h : LinkLaw l) (training : l.state = .training) : LinkLaw l.entered := by
  obtain ⟨⟨_, _, empty, timer, _⟩, ⟨_, ackTimer, off⟩, ⟨holdOff, _⟩, ⟨free, _⟩, counters⟩ := h
  have out : l.state ≠ .up := by rw [training]; decide
  have noHoldOff : l.timers.holdOff = false := by simpa [training] using holdOff
  have noAck : l.timers.ack = false := by simpa [(off out).1] using ackTimer
  refine ⟨⟨?_, ?_, fun _ => empty out, timer, Nat.zero_le 3⟩, ?_, ?_, ⟨free, fun h => by cases h⟩, counters⟩
  · simp [LinkUnit.entered, empty out]
  · simp [LinkUnit.entered, empty out, RunsUpTo]
  · simp [AckLaw, LinkUnit.entered, noAck]
  · simp [LinkTimerLaw, LinkUnit.entered, noHoldOff]

/-! ## DOWN -/

/-- What is to hold ahead of the entry to DOWN: it stops the timers and the transmitter (R178, R189). -/
theorem linkLaw_enterDown (replay : l.replay = []) (attempts : l.attempts ≤ 3) (owed : l.ackOwed = 0)
    (resend : l.resendSent = false) (counters : CounterLaw l.counters) : LinkLaw l.enterDown := by
  refine ⟨⟨?_, ?_, fun _ => replay, ?_, attempts⟩, ?_, ?_, ?_, counters⟩
  · simp [LinkUnit.enterDown, replay]
  · simp [LinkUnit.enterDown, replay, RunsUpTo]
  · simp [LinkUnit.enterDown, replay, LinkTimers.reset]
  · simp [AckLaw, LinkUnit.enterDown, owed, resend, LinkTimers.reset]
  · simp [LinkTimerLaw, LinkUnit.enterDown, LinkTimers.reset]
  · simp [TransmitterLaw, LinkUnit.enterDown]

theorem LinkLaw.enterDown (h : LinkLaw l) (training : l.state = .training) : LinkLaw l.enterDown := by
  obtain ⟨⟨_, _, empty, _, attempts⟩, ⟨_, _, off⟩, _, _, counters⟩ := h
  have out : l.state ≠ .up := by rw [training]; decide
  obtain ⟨owed, resend⟩ := off out
  exact linkLaw_enterDown (empty out) attempts owed resend counters

/-- The departure from UP sets right what the laws say of the replay list and of the ACKs (R189). -/
theorem linkLaw_left (attempts : l.attempts ≤ 3) (counters : CounterLaw l.counters) : LinkLaw l.left := by
  obtain ⟨bad, sent, received, exhaustions, downs, overruns⟩ := counters
  exact linkLaw_enterDown rfl attempts rfl rfl ⟨bad, sent, received, exhaustions, satSucc_le downs, overruns⟩

theorem CounterLaw.countExhaustion (h : CounterLaw l.counters) : CounterLaw l.countExhaustion.counters := by
  obtain ⟨bad, sent, received, exhaustions, rest⟩ := h
  exact ⟨bad, sent, received, satSucc_le exhaustions, rest⟩

theorem linkLaw_afterReset (epoch : Byte) : LinkLaw { LinkUnit.reset with epoch := epoch } := linkLaw_reset

/-! ## Receiving in UP -/

theorem LinkLaw.activity (h : LinkLaw l) (up : l.state = .up) : LinkLaw l.activity := by
  obtain ⟨replay, ack, ⟨holdOff, training, interval, _, keepalive⟩, transmitter, counters⟩ := h
  exact ⟨replay, ack, ⟨holdOff, training, interval, iff_of_true rfl up, keepalive⟩, transmitter, counters⟩

/-- At most four frames are owed at an acceptance, and the fourth is acknowledged at once (R183). -/
theorem LinkLaw.accept (h : LinkLaw l) (up : l.state = .up) : LinkLaw l.accept := by
  obtain ⟨replay, _, timers, transmitter, counters⟩ := h
  by_cases few : l.ackOwed < 3
  · rw [LinkUnit.accept_few few]
    have ack : 1 ≤ l.ackOwed + 1 ∧ l.ackOwed + 1 ≤ 3 := by omega
    exact ⟨replay, ⟨ack.2, iff_of_true rfl ack.1, fun out => absurd up out⟩, timers, transmitter, counters⟩
  · rw [LinkUnit.accept_fourth (Nat.le_of_not_lt few)]
    refine ⟨replay, ⟨Nat.zero_le 3, ?_, fun _ => ⟨rfl, rfl⟩⟩, timers, transmitterLaw_of_begin rfl (by simp [up]),
      counters⟩
    simp

theorem LinkLaw.acked (h : LinkLaw l) (up : l.state = .up) (n : LinkSeq) : LinkLaw (l.acked n) := by
  obtain ⟨⟨room, runs, _⟩, ack, timers, transmitter, counters⟩ := h
  have suffix := framesAfter_isSuffix n l.replay
  refine ⟨⟨suffix.length_le.trans room, runs.of_isSuffix suffix, fun out => absurd up out, ?_, Nat.zero_le 3⟩, ack,
    timers, transmitter, counters⟩
  simp [LinkUnit.acked]

theorem LinkLaw.takeResend (h : LinkLaw l) (up : l.state = .up) (n : LinkSeq) : LinkLaw (l.takeResend n) := by
  obtain ⟨replay, ack, timers, transmitter, bad, sent, received, others⟩ := h.activity up
  have counters : CounterLaw { l.counters with resendsReceived := satSucc 65535 l.counters.resendsReceived } :=
    ⟨bad, sent, satSucc_le received, others⟩
  cases held : holdsSeq n l.replay with
  | true =>
    rw [LinkUnit.takeResend_held held]
    exact ⟨replay, ack, timers, transmitterLaw_of_begin rfl (by simp [up]), counters⟩
  | false =>
    rw [LinkUnit.takeResend_unheld held]
    exact ⟨replay, ack, timers, transmitter, counters⟩

/-! ## Sending in UP -/

theorem LinkLaw.replayAgain (h : LinkLaw l) (up : l.state = .up) (few : l.attempts < 3) : LinkLaw l.replayAgain := by
  obtain ⟨⟨room, runs, empty, timer, _⟩, ack, timers, _, counters⟩ := h
  exact ⟨⟨room, runs, empty, timer, few⟩, ack, timers,
    transmitterLaw_of_begin rfl (by simp [LinkUnit.replayAgain, up]), counters⟩

/-- A frame is placed in UP where the replay list has room (R126, R185). -/
theorem LinkLaw.place (h : LinkLaw l) (up : l.state = .up) (room : l.replay.length < Config.replayCapacity)
    (p : UpPacket) : LinkLaw (l.place p) := by
  obtain ⟨⟨_, runs, _, timer, attempts⟩, ack, timers, _, counters⟩ := h
  have longer : (l.place p).replay.length ≤ Config.replayCapacity := by
    simpa [LinkUnit.place] using room
  have timed : (l.place p).timers.replay = true ↔ (l.place p).replay ≠ [] := by
    by_cases empty : l.replay = [] <;> simp [LinkUnit.place, timer, empty]
  exact ⟨⟨longer, runs.append p, fun out => absurd up out, timed, attempts⟩, ack, timers,
    transmitterLaw_of_begin rfl (by simp [LinkUnit.place, up]), counters⟩

end

/-! ## The state's operations on the link unit -/

section
variable {s : State}

theorem State.enterUpIfTrained_linkLaw (h : LinkLaw s.link) : LinkLaw s.enterUpIfTrained.link := by
  unfold State.enterUpIfTrained
  split
  next c => exact h.entered c.1
  next => exact h

theorem State.leaveUp_linkLaw (attempts : s.link.attempts ≤ 3) (counters : CounterLaw s.link.counters) :
    LinkLaw s.leaveUp.link := by
  unfold State.leaveUp
  split
  next => exact linkLaw_afterReset _
  next => exact linkLaw_left attempts counters

theorem LinkLaw.leaveUp (h : LinkLaw s.link) : LinkLaw s.leaveUp.link := by
  obtain ⟨⟨_, _, _, _, attempts⟩, _, _, _, counters⟩ := h
  exact State.leaveUp_linkLaw attempts counters

/-- Replay exhaustion stops the replay timer ahead of the departure, which empties the list (R187, R189). -/
theorem LinkLaw.exhaustion (h : LinkLaw s.link) : LinkLaw (s.setLink s.link.countExhaustion).leaveUp.link := by
  obtain ⟨⟨_, _, _, _, attempts⟩, _, _, _, counters⟩ := h
  exact State.leaveUp_linkLaw (s := s.setLink s.link.countExhaustion) attempts counters.countExhaustion

theorem State.takeAck_linkLaw (h : LinkLaw s.link) (up : s.link.state = .up) (n : LinkSeq) :
    LinkLaw (s.takeAck n).link := by
  have active : LinkLaw (s.setLink s.link.activity).link := h.activity up
  unfold State.takeAck
  dsimp only
  split
  next =>
    split
    next => exact linkLaw_afterReset _
    next => exact active.acked up n
  next => exact active

/-! ## Intake -/

theorem State.overrun_linkLaw (h : LinkLaw s.link) : LinkLaw s.overrun.link := by
  obtain ⟨bad, sent, received, exhaustions, downs, overruns⟩ := h.counterLaw
  have counters : CounterLaw { s.link.counters with overruns := satSucc 65535 s.link.counters.overruns } :=
    ⟨bad, sent, received, exhaustions, downs, satSucc_le overruns⟩
  simpa [State.overrun] using h.setCounters counters

@[simp] theorem State.consumed_link (s : State) (p : Pool) : (s.consumed p).link = s.link := rfl

/-- The credit check keeps the law where the rest of intake does (R147, R148). -/
theorem State.withCredit_linkLaw (h : LinkLaw s.link) (p : Pool) {next : State → State}
    (pass : LinkLaw (next (s.consumed p)).link) : LinkLaw (s.withCredit p next).link :=
  State.withCredit_induction (P := fun t => LinkLaw t.link) s p next h (State.overrun_linkLaw h) pass

/-- An append meets at most an event of the link (R47). -/
theorem State.append_linkLaw (h : LinkLaw s.link) (b : BayId) (e : Entry) (m : Meeting) :
    LinkLaw (s.append b e m).link := by
  have met : LinkLaw ((s.setList b ((s.bay b).list ++ [e])).takeAfterAppend m).link :=
    State.takeAfterAppend_induction (P := fun t => LinkLaw t.link) _ m h (fun training => h.enterDown training)
      (fun _ => LinkLaw.leaveUp (s := s.setList b ((s.bay b).list ++ [e])) h)
      (fun up _ few => h.replayAgain up few)
      (fun _ => LinkLaw.exhaustion (s := s.setList b ((s.bay b).list ++ [e])) h)
  simpa [State.append] using met

theorem State.routeRequest_linkLaw (h : LinkLaw s.link) (k : RequestKind) (f : RequestFields) (m : Meeting) :
    LinkLaw (s.routeRequest k f m).link := by
  unfold State.routeRequest
  split
  next => simpa using h
  next w _ =>
    dsimp only
    split
    next => simpa using h
    next =>
      split
      next => simpa using h
      next => exact State.append_linkLaw (by simpa using h) _ _ m

theorem State.intakeRequest_linkLaw (h : LinkLaw s.link) (k : RequestKind) (fields : Option RequestFields)
    (m : Meeting) : LinkLaw (s.intakeRequest k fields m).link := by
  refine State.withCredit_linkLaw h .request ?_
  split
  next => simpa using h
  next f =>
    split
    next => simpa using h
    next =>
      split
      next => simpa using h
      next => exact State.routeRequest_linkLaw (by simpa using h) k f m

theorem State.routeStore_linkLaw (h : LinkLaw s.link) (f : StoreFields) (m : Meeting) :
    LinkLaw (s.routeStore f m).link := by
  unfold State.routeStore
  split
  next => simpa using h
  next w _ =>
    dsimp only
    split
    next => simpa using h
    next =>
      split
      next => simpa using h
      next => exact State.append_linkLaw (by simpa using h) _ _ m

theorem State.intakeStore_linkLaw (h : LinkLaw s.link) (fields : Option StoreFields) (m : Meeting) :
    LinkLaw (s.intakeStore fields m).link := by
  refine State.withCredit_linkLaw h .store ?_
  split
  next => simpa using h
  next f =>
    split
    next => simpa using h
    next => exact State.routeStore_linkLaw (by simpa using h) f m

/-- COUNTERS_READ clears the counters where it is told to; no other command changes the link unit (R171). -/
theorem commandByCode_link (s : State) (code : Byte) (o : List Byte) :
    (commandByCode code o s).after.link = s.link ∨
      (commandByCode code o s).after.link = { s.link with counters := .reset } := by
  apply commandByCode_induction (P := fun r =>
    r.after.link = s.link ∨ r.after.link = { s.link with counters := .reset }) s o
  case refuse => exact fun _ => .inl rfl
  case quiesce => exact .inl (commandQuiesce_frame o s).1
  case countersRead =>
    unfold commandCountersRead
    split
    next => exact .inl rfl
    next clear _ =>
      cases clear with
      | false => exact .inl rfl
      | true => exact .inr rfl
  case eventInject =>
    unfold commandEventInject
    split
    next => exact .inl rfl
    next => simp
  all_goals
    refine .inl ?_
    simp only [commandIdentify, commandWindowWrite, commandWindowRead, commandWindowClear, commandWindowClearBay,
      commandBayStatus, commandBayPolicy, commandPowerOn, commandBayRestart, commandEventRead, commandEventEnable,
      commandEventClear, commandBridgeReset]
    (repeat' split) <;> rfl

theorem State.intakeMgmt_linkLaw (h : LinkLaw s.link) (seq code : Byte) (o : List Byte) :
    LinkLaw (s.intakeMgmt seq (commandByCode code o)).link := by
  refine State.withCredit_linkLaw h .mgmt ?_
  unfold State.acceptMgmt
  split
  next => exact h
  next =>
    show LinkLaw (commandByCode code o (s.consumed .mgmt)).after.link
    rcases commandByCode_link (s.consumed .mgmt) code o with same | cleared
    · exact same ▸ h
    · rw [cleared]
      exact h.setCounters (by unfold CounterLaw; decide)

theorem State.intake_linkLaw (h : LinkLaw s.link) (p : Packet) (m : Meeting) : LinkLaw (s.intake p m).link := by
  cases p with
  | fetch f => exact State.intakeRequest_linkLaw h .fetch f m
  | store f => exact State.intakeStore_linkLaw h f m
  | portFetch f => exact State.intakeRequest_linkLaw h .portFetch f m
  | portStore f => exact State.intakeRequest_linkLaw h .portStore f m
  | mgmt seq code o => exact State.intakeMgmt_linkLaw h seq code o
  | mgmtShort => exact State.withCredit_linkLaw h .mgmt (by simpa using h)
  | unknownKind => simpa [State.intake] using h

/-! ## The access timer, and the placements -/

/-- Ahead of a report a QUIESCE may be taken, which meets the credit check (R104; log 17). -/
theorem State.takeBefore_linkLaw (h : LinkLaw s.link) (b : BayId) (before : BeforeReport) :
    LinkLaw (s.takeBefore b before).link := by
  cases before with
  | quiesce seq o => exact State.intakeMgmt_linkLaw h seq 0x23 o
  | nothing => exact h
  | quiesceCompletion => simpa [State.takeBefore] using h
  | removal => simpa [State.takeBefore] using h
  | pgoodLoss => simpa [State.takeBefore] using h

theorem State.timeoutCycle_linkLaw (h : LinkLaw s.link) (b : BayId) (before : BeforeReport) :
    LinkLaw (s.timeoutCycle b before).link := by
  unfold State.timeoutCycle
  dsimp only
  split
  next => simpa using h
  next => simpa using h
  next =>
    split
    next => simpa using h
    next =>
      unfold State.timeoutRequest
      split
      next => simpa using State.takeBefore_linkLaw (by simpa using h) b before
      next => simpa using h

/-- The arbiter chooses only in UP and with room in the replay list (R126). -/
theorem State.arbiterChoice_room {c : PacketClass} (h : s.arbiterChoice = some c) :
    s.link.replay.length < Config.replayCapacity := by
  unfold State.arbiterChoice at h
  split at h
  next ready => exact of_decide_eq_true (Bool.and_eq_true_iff.1 ready).2
  next => cases h

theorem State.place_linkLaw (h : LinkLaw s.link) {c : PacketClass} (choice : s.arbiterChoice = some c)
    (p : UpPacket) : LinkLaw (s.place p).link :=
  h.place (State.arbiterChoice_some choice).1 (State.arbiterChoice_room choice) p

end

/-! ## Every command -/

/-- Every command keeps the laws of the link unit. -/
theorem exec_linkLaw (i : Instr) (s t : State) (h : LinkLaw s.link) (e : exec i s = .next t) : LinkLaw t.link := by
  apply exec_induction (P := fun u => LinkLaw u.link) s (h := e)
  case reset => exact fun epoch _ => linkLaw_afterReset epoch
  case deferredReset => exact fun _ _ => linkLaw_afterReset _
  case enterTraining => exact fun down => h.enterTraining down
  case sendTrain =>
    exact fun training => State.enterUpIfTrained_linkLaw (h.sendTrain (by rw [training]; decide))
  case enterDown => exact fun training => h.enterDown training
  case countTrain => exact fun ready _ => State.enterUpIfTrained_linkLaw (h.countTrain ready)
  case badInTraining => exact fun _ => h.countBad
  case badInUp => exact fun up => h.countBad.sendResend up
  case accept =>
    exact fun p m up => State.intake_linkLaw (s := s.setLink s.link.activity.accept) ((h.activity up).accept up) p m
  case duplicate => exact fun up => (h.activity up).sendAck up
  case gap => exact fun up => (h.activity up).sendResend up
  case ackTimer => exact fun up _ => h.sendAck up
  case ackReceived => exact fun n up => State.takeAck_linkLaw h up n
  case resendReceived => exact fun n up => h.takeResend up n
  case idleReceived => exact fun up => h.activity up
  case leaveUp => exact fun _ => h.leaveUp
  case replayAgain => exact fun up _ few => h.replayAgain up few
  case exhaustion => exact fun _ => h.exhaustion
  case keepalive => exact fun up => h.sendIdle up
  case frameEnd => exact h.frameEnd
  case intake => exact State.intake_linkLaw h
  case timeoutCycle => exact fun b _ before _ => State.timeoutCycle_linkLaw h b before
  case placeGrant => exact fun choice => by simpa [State.placeGrantNow] using State.place_linkLaw h choice _
  case placeResponse =>
    exact fun r _ choice => by simpa [State.placeResponseNow] using State.place_linkLaw h choice (.mgmtResp r)
  case placeAnswer =>
    exact fun e _ _ choice => by simpa [State.placeAnswerNow] using State.place_linkLaw h choice e.packet
  case placeNotice => exact fun _ _ _ choice => State.place_linkLaw h choice _
  -- what remains leaves the link unit alone
  all_goals intros; simpa using h

/-- Settles O58: every command keeps the laws, so a step does; the queue of commands is no part of the link unit. -/
theorem linkLawIsKept : Obligations.LinkLawIsKept := fun _ _ h e =>
  step_of_exec (P := fun s => LinkLaw s.link) (fun _ _ h => h) exec_linkLaw h e

end Sys2Proof.Machine

/-! PROOF. Training and the entry to UP (R178 to R181), the bad frames (R180, R182), the sequenced frames (R183), and
the frames that a link state discards (R178, R180, R184). -/

namespace Sys2Proof.Machine

/-! ## Training -/

section
variable {s : State}

theorem LinkUnit.trained_iff {l : LinkUnit} : l.trained = true ↔ l.trainsInRow = 2 ∧ 2 ≤ l.trainsSent := by
  simp [LinkUnit.trained]

theorem State.enterUpIfTrained_trained (training : s.link.state = .training)
    (trained : s.link.trainsInRow = 2 ∧ 2 ≤ s.link.trainsSent) : s.enterUpIfTrained = s.enterUp :=
  if_pos ⟨training, LinkUnit.trained_iff.2 trained⟩

theorem State.enterUpIfTrained_untrained (untrained : ¬ (s.link.trainsInRow = 2 ∧ 2 ≤ s.link.trainsSent)) :
    s.enterUpIfTrained = s :=
  if_neg (fun h => untrained (LinkUnit.trained_iff.1 h.2))

theorem exec_trainIntervalExpiry (training : s.link.state = .training) (timer : s.link.timers.trainInterval = true) :
    exec .trainIntervalExpiry s = .next (s.setLink s.link.sendTrain).enterUpIfTrained :=
  congrArg _ (if_pos ⟨training, timer⟩)

theorem exec_trainReceived (training : s.link.state = .training) (ready : Bool) (epoch : Byte) :
    exec (.trainReceived ready epoch) s = .next (s.setLink (s.link.countTrain ready)).enterUpIfTrained :=
  congrArg _ (if_pos training)

end

/-- Settles O5: the entry to TRAINING and the returns to DOWN by their timers and the signal, and each TRAIN by the
conditions for UP, which it leaves unmet. -/
theorem trainingProceeds : Obligations.TrainingProceeds := by
  intro s
  refine ⟨fun down holdOff => ?holdOff, fun training timer => ?timer, fun training => ?signal,
    fun training interval unmet => ?sent, fun epoch training unmet => ?ready, fun epoch training => ?unready⟩
  case holdOff => exact congrArg _ (if_pos ⟨down, holdOff⟩)
  case timer => exact congrArg _ (if_pos ⟨training, timer⟩)
  case signal =>
    refine congrArg _ (?_ : s.takeSignalLoss = s.setLink s.link.enterDown)
    unfold State.takeSignalLoss
    rw [training]
  case sent =>
    rw [exec_trainIntervalExpiry training interval, State.enterUpIfTrained_untrained]
    · rfl
    · show ¬ (s.link.trainsInRow = 2 ∧ 2 ≤ s.link.trainsSent + 1)
      omega
  case ready =>
    rw [exec_trainReceived training, State.enterUpIfTrained_untrained]
    · rfl
    · show ¬ (min 2 (s.link.trainsInRow + 1) = 2 ∧ 2 ≤ s.link.trainsSent)
      omega
  case unready =>
    rw [exec_trainReceived training, State.enterUpIfTrained_untrained]
    · rfl
    · show ¬ (0 = 2 ∧ 2 ≤ s.link.trainsSent)
      omega

/-- The entry to UP with the link unit that meets the conditions: the pools and the notices are those of the state
(R123, R144, R180, R181). -/
theorem State.enterUpIfTrained_afterLink {s : State} {l : LinkUnit} (training : l.state = .training)
    (trained : l.trainsInRow = 2 ∧ 2 ≤ l.trainsSent) :
    (s.setLink l).enterUpIfTrained =
      ((s.setLink l.entered).setLedger
        (Ledger.seeded (24 - s.storesInUse) (32 - s.requestsInUse) (1 - s.mgmtInUse))).setNotice s.notice.linkUp :=
  State.enterUpIfTrained_trained (s := s.setLink l) training trained

/-- Settles O6: the TRAIN meets the conditions for UP, and the entry follows it. -/
theorem trainingCompletesInUp : Obligations.TrainingCompletesInUp := by
  intro i s l training completes
  rcases completes with ⟨rfl, interval, row, sent, rfl⟩ | ⟨epoch, rfl, row, sent, rfl⟩
  · rw [exec_trainIntervalExpiry training interval]
    exact congrArg _ (State.enterUpIfTrained_afterLink training ⟨row, Nat.succ_le_succ sent⟩)
  · have counted : s.link.countTrain true = { s.link with trainSeen := true, trainsInRow := 2 } := by
      have two : min 2 (s.link.trainsInRow + 1) = 2 := Nat.min_eq_left (Nat.succ_le_succ row)
      simp [LinkUnit.countTrain, two]
    rw [exec_trainReceived training, counted]
    exact congrArg _ (State.enterUpIfTrained_afterLink training ⟨rfl, sent⟩)

/-! ## Bad frames -/

section
variable {s : State}

theorem exec_badFrame_down (down : s.link.state = .down) : exec .badFrameReceived s = .next s := by
  simp only [exec, execBadFrameReceived, down]

theorem exec_badFrame_training (training : s.link.state = .training) :
    exec .badFrameReceived s = .next (s.setLink { s.link.countBad with trainsInRow := 0 }) := by
  simp only [exec, execBadFrameReceived, training]

theorem exec_badFrame_up (up : s.link.state = .up) :
    exec .badFrameReceived s = .next (s.setLink s.link.countBad.sendResend) := by
  simp only [exec, execBadFrameReceived, up]

end

/-- Settles O8: the count, and in UP the RESEND that has not gone out since the last acceptance. -/
theorem badFramesAreCounted : Obligations.BadFramesAreCounted := by
  intro s
  refine ⟨exec_badFrame_training, fun up first => ?first, fun up again => ?again⟩
  case first =>
    rw [exec_badFrame_up up, LinkUnit.sendResend_first (l := s.link.countBad) first]
    rfl
  case again =>
    rw [exec_badFrame_up up, LinkUnit.sendResend_again (l := s.link.countBad) again]
    rfl

/-! ## Sequenced frames -/

section
variable {s : State} {n : LinkSeq} {payload : Arrival (List Byte)}

theorem LinkUnit.isDuplicate_iff {l : LinkUnit} :
    l.isDuplicate n = true ↔ 1 ≤ (l.receiveExpected - n).toNat ∧ (l.receiveExpected - n).toNat ≤ 2048 := by
  simp [LinkUnit.isDuplicate]

/-- Of two different numbers each is as far ahead of the other as the numbers go round (R183). -/
theorem toNat_sub_add_toNat_sub {a b : LinkSeq} (ne : a ≠ b) : (a - b).toNat + (b - a).toNat = 4096 := by
  bv_omega

/-- A number ahead of receive expected by at most 2047 is neither that nor a duplicate. -/
theorem LinkUnit.not_isDuplicate_of_ahead {l : LinkUnit} (ahead : 1 ≤ (n - l.receiveExpected).toNat)
    (near : (n - l.receiveExpected).toNat ≤ 2047) : n ≠ l.receiveExpected ∧ ¬ l.isDuplicate n = true := by
  have ne : n ≠ l.receiveExpected := by
    rintro rfl
    simp at ahead
  have round := toNat_sub_add_toNat_sub ne
  rw [LinkUnit.isDuplicate_iff]
  exact ⟨ne, by omega⟩

theorem exec_sequencedFrame_expected (up : s.link.state = .up) (expected : n = s.link.receiveExpected) :
    exec (.sequencedFrameReceived n payload) s =
      .next ((s.setLink s.link.activity.accept).intake (packetOf payload.content) payload.meets) :=
  congrArg _ ((if_pos up).trans (if_pos expected))

theorem exec_sequencedFrame_duplicate (up : s.link.state = .up) (ne : n ≠ s.link.receiveExpected)
    (duplicate : s.link.isDuplicate n = true) :
    exec (.sequencedFrameReceived n payload) s = .next (s.setLink s.link.activity.sendAck) :=
  congrArg _ ((if_pos up).trans ((if_neg ne).trans (if_pos duplicate)))

theorem exec_sequencedFrame_gap (up : s.link.state = .up) (ahead : 1 ≤ (n - s.link.receiveExpected).toNat)
    (near : (n - s.link.receiveExpected).toNat ≤ 2047) :
    exec (.sequencedFrameReceived n payload) s = .next (s.setLink s.link.activity.sendResend) := by
  obtain ⟨ne, fresh⟩ := LinkUnit.not_isDuplicate_of_ahead ahead near
  exact congrArg _ ((if_pos up).trans ((if_neg ne).trans (if_neg fresh)))

end

/-- Settles O9: the number against receive expected, and then the frames owed or the RESEND sent. -/
theorem sequencedFramesAreJudged : Obligations.SequencedFramesAreJudged := by
  intro s n payload up
  refine ⟨fun expected few => ?few, fun expected fourth => ?fourth, fun earlier near => ?earlier,
    fun ahead near first => ?first, fun ahead near again => ?again, fun timer => ?timer⟩
  case few =>
    rw [exec_sequencedFrame_expected up expected, LinkUnit.accept_few (l := s.link.activity) few]
    rfl
  case fourth =>
    rw [exec_sequencedFrame_expected up expected, LinkUnit.accept_fourth (l := s.link.activity) fourth]
    rfl
  case earlier =>
    have ne : n ≠ s.link.receiveExpected := by
      rintro rfl
      simp at earlier
    exact exec_sequencedFrame_duplicate up ne (LinkUnit.isDuplicate_iff.2 ⟨earlier, near⟩)
  case first =>
    rw [exec_sequencedFrame_gap up ahead near, LinkUnit.sendResend_first (l := s.link.activity) first]
    rfl
  case again =>
    rw [exec_sequencedFrame_gap up ahead near, LinkUnit.sendResend_again (l := s.link.activity) again]
    rfl
  case timer => exact congrArg _ (if_pos ⟨up, timer⟩)

/-! ## Discarded frames -/

/-- Settles O14: each command tests the link state first. -/
theorem discardedFramesChangeNothing : Obligations.DiscardedFramesChangeNothing := by
  intro s ready epoch n payload
  refine ⟨fun out => congrArg _ (if_neg out), exec_badFrame_down, fun out => ⟨?_, ?_, ?_, ?_⟩⟩
  all_goals exact congrArg _ (if_neg out)

end Sys2Proof.Machine

/-! PROOF. ACK, RESEND and IDLE in UP (R184, R186), the replay timer (R187), the departures from UP (R189), and the
order of the frames sent (R185 to R188). -/

namespace Sys2Proof.Machine

/-! ## ACK and RESEND -/

section
variable {s : State} {n : LinkSeq}

/-- An ACK for a frame of the replay list, with the frame of a pending reset's response not among those it removes
(R174, R186). -/
theorem State.takeAck_held (held : holdsSeq n s.link.replay = true)
    (kept : s.mgmt.resetPending = false ∨ ∀ x, s.mgmt.resetFrame = some x →
      holdsSeq x s.link.replay = false ∨ holdsSeq x (framesAfter n s.link.replay) = true) :
    s.takeAck n = s.setLink (s.link.activity.acked n) := by
  have unreset : ¬ (s.setLink s.link.activity).resetAcked n = true := by
    cases frame : s.mgmt.resetFrame with
    | none => simp [State.resetAcked, frame]
    | some x =>
      rcases kept with unpending | others
      · simp [State.resetAcked, frame, unpending]
      · rcases others x frame with absent | behind
        · simp [State.resetAcked, LinkUnit.activity, frame, absent]
        · simp [State.resetAcked, LinkUnit.activity, frame, behind]
  exact (if_pos held).trans (if_neg unreset)

theorem State.takeAck_unheld (unheld : holdsSeq n s.link.replay = false) :
    s.takeAck n = s.setLink s.link.activity :=
  if_neg (by simpa [LinkUnit.activity] using unheld)

theorem exec_ackReceived (up : s.link.state = .up) (n : LinkSeq) : exec (.ackReceived n) s = .next (s.takeAck n) :=
  congrArg _ (if_pos up)

theorem exec_resendReceived (up : s.link.state = .up) (n : LinkSeq) :
    exec (.resendReceived n) s = .next (s.setLink (s.link.takeResend n)) :=
  congrArg _ (if_pos up)

/-- A frame that no frame of the front has the number of, or that stands behind the front, is not removed with it. -/
theorem holdsSeq_behind {x : LinkSeq} {before after : List Frame} {f : Frame}
    (others : (∀ g ∈ before ++ [f], g.seq ≠ x) ∨ ∃ g ∈ after, g.seq = x) :
    holdsSeq x (before ++ f :: after) = false ∨ holdsSeq x after = true := by
  rw [holdsSeq_iff, holdsSeq_eq_false_iff]
  by_cases behind : ∃ g ∈ after, g.seq = x
  · exact .inr behind
  · have front := others.resolve_right behind
    refine .inl (fun g mem => ?_)
    rw [List.append_cons] at mem
    rcases List.mem_append.1 mem with early | late
    · exact front g early
    · exact fun number => behind ⟨g, late, number⟩

end

/-- Settles O10: the frame's place splits the replay list; without one no frame is removed or sent again. -/
theorem acksAndResendsActOnReplayList : Obligations.AcksAndResendsActOnReplayList := by
  intro s n up
  refine ⟨fun before f after list number first => ?held, fun absent => ?unheld, congrArg _ (if_pos up)⟩
  case held =>
    have held : holdsSeq n s.link.replay = true := holdsSeq_iff.2 ⟨f, by simp [list], number⟩
    have from_f : framesFrom n s.link.replay = f :: after := list ▸ framesFrom_split number first
    have after_f : framesAfter n s.link.replay = after := congrArg (List.drop 1) from_f
    refine ⟨fun reset => ?_, ?_⟩
    · have kept : s.mgmt.resetPending = false ∨ ∀ x, s.mgmt.resetFrame = some x →
          holdsSeq x s.link.replay = false ∨ holdsSeq x (framesAfter n s.link.replay) = true :=
        reset.imp id (fun others x frame => by rw [after_f, list]; exact holdsSeq_behind (others x frame))
      rw [exec_ackReceived up, State.takeAck_held held kept, ← after_f]
      rfl
    · rw [exec_resendReceived up, LinkUnit.takeResend_held held, from_f]
  case unheld =>
    have unheld : holdsSeq n s.link.replay = false := holdsSeq_eq_false_iff.2 absent
    refine ⟨?_, ?_⟩
    · rw [exec_ackReceived up, State.takeAck_unheld unheld]
      rfl
    · rw [exec_resendReceived up, LinkUnit.takeResend_unheld unheld]

/-! ## The replay timer, and the departure from UP -/

section
variable {s : State}

theorem State.takeReplayExpiry_again (up : s.link.state = .up) (timer : s.link.timers.replay = true)
    (frames : s.link.replay ≠ []) (few : s.link.attempts < 3) : s.takeReplayExpiry = s.setLink s.link.replayAgain :=
  (if_pos ⟨up, timer, frames⟩).trans (if_pos few)

theorem State.takeReplayExpiry_exhausted (up : s.link.state = .up) (timer : s.link.timers.replay = true)
    (frames : s.link.replay ≠ []) (attempts : 3 ≤ s.link.attempts) :
    s.takeReplayExpiry = (s.setLink s.link.countExhaustion).leaveUp :=
  (if_pos ⟨up, timer, frames⟩).trans (if_neg (Nat.not_lt.2 attempts))

theorem State.leaveUp_departs (noReset : s.mgmt.resetPending = false) : s.leaveUp = s.departUp :=
  if_neg (by simp [noReset])

end

/-- Settles O12: with fewer than three attempts made the expiry is no exhaustion. -/
theorem replayTimerSendsListAgain : Obligations.ReplayTimerSendsListAgain := fun _ up timer frames few =>
  congrArg _ (State.takeReplayExpiry_again up timer frames few)

/-- Settles O11: each of the three events is the departure, the last behind the count of the exhaustion. -/
theorem linkLeavesUp : Obligations.LinkLeavesUp := by
  intro i s exhaustions up noReset event
  have departs : ∃ l : LinkUnit, exec i s = .next (s.setLink l).departUp ∧ l.left =
      { s.link with
        state := .down, replay := [], ackOwed := 0, resendSent := false, timers := .reset, tx := .idle,
        counters := { s.link.counters with
          linkDowns := satSucc 65535 s.link.counters.linkDowns, replayExhaustions := exhaustions } } := by
    rcases event with ⟨rfl, rfl⟩ | ⟨rfl, silence, rfl⟩ | ⟨rfl, timer, frames, attempts, rfl⟩
    · exact ⟨s.link, congrArg _ ((State.takeSignalLoss_up up).trans (State.leaveUp_departs noReset)), rfl⟩
    · exact ⟨s.link, congrArg _ ((if_pos ⟨up, silence⟩).trans (State.leaveUp_departs noReset)), rfl⟩
    · exact ⟨s.link.countExhaustion,
        congrArg _ ((State.takeReplayExpiry_exhausted up timer frames attempts).trans
          (State.leaveUp_departs (s := s.setLink s.link.countExhaustion) noReset)), rfl⟩
  obtain ⟨l, departure, left⟩ := departs
  exact ⟨(s.setLink l).departUp, departure, left, rfl, rfl, rfl, rfl, rfl, (s.setLink l).departUp_notice, rfl, rfl,
    (s.setLink l).departUp_bay⟩

/-! ## The order of the frames sent -/

section
variable {t : Transmitter} {sent : WireFrame}

/-- A control frame called for while another frame is sent waits in its place (R185). -/
theorem Transmitter.sendControl_busy (busy : t.current = some sent) {x : WireFrame} {before after : List WireFrame}
    (control : t.control = before ++ after) (behind : ∀ y ∈ before, y.rank ≤ x.rank)
    (ahead : ∀ y, after.head? = some y → x.rank < y.rank) :
    t.sendControl x = { t with control := before ++ x :: after } := by
  rw [← insertControl_between behind ahead, ← control]
  exact Transmitter.begin_busy (t := { t with control := insertControl x t.control }) busy

theorem Transmitter.sendPlaced_busy (busy : t.current = some sent) (f : Frame) :
    t.sendPlaced f = { t with fresh := t.fresh ++ [f] } :=
  Transmitter.begin_busy (t := { t with fresh := t.fresh ++ [f] }) busy

/-- A retransmission called for while another frame is sent takes its own frames out of those that wait for their first
sending (R185; log 10). -/
theorem Transmitter.sendAgain_busy (busy : t.current = some sent) (frames : List Frame) :
    t.sendAgain frames =
      { t with retransmit := frames, fresh := t.fresh.filter (fun g => decide (∀ h ∈ frames, h.seq ≠ g.seq)) } := by
  have uncovered : (fun f : Frame => !frames.any (fun g => g.seq == f.seq)) =
      fun g => decide (∀ h ∈ frames, h.seq ≠ g.seq) := by
    funext f
    rw [Bool.eq_iff_iff]
    simp
  rw [← uncovered]
  exact Transmitter.begin_busy
    (t := { t with
      retransmit := frames, fresh := t.fresh.filter (fun f => !frames.any (fun g => g.seq == f.seq)) }) busy

theorem exec_frameTransmissionEnd {s : State} (busy : s.link.tx.current = some sent) :
    exec .frameTransmissionEnd s = .next (s.setLink s.link.frameEnd) :=
  congrArg _ (if_pos (by simp [busy]))

end

/-- Settles O13: the choice of the next frame, and what is called for with the transmitter idle and busy. -/
theorem transmitterSendsInOrder : Obligations.TransmitterSendsInOrder := by
  intro s
  refine ⟨fun up keepalive => ?keepalive, fun f next busy chosen => ?ends, fun ready epoch n m => ?ranks,
    fun x f frames => ⟨rfl, rfl, rfl, rfl⟩, fun t sent x f frames busy => ⟨?control, ?placed, ?again⟩⟩
  case keepalive => exact congrArg _ (if_pos ⟨up, keepalive⟩)
  case ends =>
    have finished : s.link.tx.finish = next := by
      rcases chosen with ⟨c, rest, control, rfl⟩ | ⟨g, rest, control, retransmit, rfl⟩ |
        ⟨g, rest, control, retransmit, fresh, rfl⟩ | ⟨control, retransmit, fresh, rfl⟩
      · exact Transmitter.begin_control (t := { s.link.tx with current := none }) rfl control
      · exact Transmitter.begin_retransmit (t := { s.link.tx with current := none }) rfl control retransmit
      · exact Transmitter.begin_fresh (t := { s.link.tx with current := none }) rfl control retransmit fresh
      · exact Transmitter.begin_nothing (t := { s.link.tx with current := none }) control retransmit fresh
    rw [exec_frameTransmissionEnd busy, ← finished]
    rfl
  case ranks => simp [WireFrame.rank]
  case control => exact fun _ _ control behind ahead => Transmitter.sendControl_busy busy control behind ahead
  case placed => exact Transmitter.sendPlaced_busy busy f
  case again => exact Transmitter.sendAgain_busy busy frames

end Sys2Proof.Machine

/-! PROOF. The wire formats read back (R182, R191): the bytes of a number, the four parts of a frame, and the command of
each kind of frame. -/

namespace Sys2Proof.Machine

/-! ## The bytes of a number -/

theorem leBytes_length (k n : Nat) : (leBytes k n).length = k := by
  induction k generalizing n with
  | zero => rfl
  | succ k ih => exact congrArg Nat.succ (ih (n / 256))

theorem leNat_leBytes (k n : Nat) : leNat (leBytes k n) = n % 256 ^ k := by
  induction k generalizing n with
  | zero => exact (Nat.mod_one n).symm
  | succ k ih =>
    have low : (BitVec.ofNat 8 n).toNat = n % 256 := BitVec.toNat_ofNat n 8
    calc leNat (leBytes (k + 1) n)
      _ = (BitVec.ofNat 8 n).toNat + 256 * leNat (leBytes k (n / 256)) := rfl
      _ = n % 256 + 256 * (n / 256 % 256 ^ k) := by rw [low, ih]
      _ = n % 256 ^ (k + 1) := by rw [Nat.pow_succ', Nat.mod_mul]

/-- Two bytes hold a sequence number (R191). -/
theorem leNat_leBytes_seq (n : LinkSeq) : leNat (leBytes 2 n.toNat) = n.toNat := by
  rw [leNat_leBytes]
  exact Nat.mod_eq_of_lt (by omega)

/-- The two bytes of a sequence number are in its range and give it back. -/
theorem seq_readBack (n : LinkSeq) :
    leNat (leBytes 2 n.toNat) < 4096 ∧ BitVec.ofNat 12 (leNat (leBytes 2 n.toNat)) = n := by
  rw [leNat_leBytes_seq]
  exact ⟨n.isLt, by simp⟩

theorem checkBytes_length (bytes : List Byte) : (checkBytes bytes).length = 4 := leBytes_length 4 _

/-! ## The parts of a frame -/

/-- The tests of a frame whose header is whole: its length, its check and its sequence bits (R182, R191). -/
theorem frameCommand_header (kind s0 s1 len : Byte) (rest : List Byte) :
    frameCommand (kind :: s0 :: s1 :: len :: rest) =
      if rest.length = len.toNat + 4 ∧
          rest.drop len.toNat = checkBytes ([kind, s0, s1, len] ++ rest.take len.toNat) ∧ leNat [s0, s1] < 4096 then
        goodFrameCommand kind (leNat [s0, s1]) (rest.take len.toNat)
      else .badFrameReceived := rfl

/-- A frame with some check behind it is read by that check: the length field finds the payload again (R191). -/
theorem frameCommand_envelope (kind : Byte) (n : LinkSeq) {payload : List Byte} (check : List Byte)
    (fits : payload.length ≤ 80) :
    frameCommand (envelope kind n.toNat payload ++ check) =
      if check = checkBytes (envelope kind n.toNat payload) then goodFrameCommand kind n.toNat payload
      else .badFrameReceived := by
  have spelled : envelope kind n.toNat payload ++ check =
      kind :: BitVec.ofNat 8 n.toNat :: BitVec.ofNat 8 (n.toNat / 256) :: BitVec.ofNat 8 payload.length ::
        (payload ++ check) := rfl
  have number : leNat [BitVec.ofNat 8 n.toNat, BitVec.ofNat 8 (n.toNat / 256)] = n.toNat := leNat_leBytes_seq n
  have length : (BitVec.ofNat 8 payload.length).toNat = payload.length := by
    rw [BitVec.toNat_ofNat]
    exact Nat.mod_eq_of_lt (by omega)
  have inRange : n.toNat < 4096 := n.isLt
  rw [spelled, frameCommand_header, number, length, List.take_left, List.drop_left, List.length_append]
  refine if_congr ⟨fun passed => passed.2.1, fun right => ⟨?_, right, inRange⟩⟩ rfl rfl
  rw [right, checkBytes_length]

/-- A frame as it is written is read by its kind. -/
theorem frameCommand_frameBytes (kind : Byte) (n : LinkSeq) {payload : List Byte} (fits : payload.length ≤ 80) :
    frameCommand (frameBytes kind n.toNat payload) = goodFrameCommand kind n.toNat payload :=
  (frameCommand_envelope kind n _ fits).trans (if_pos rfl)

/-! ## The kinds of frames -/

theorem goodFrameCommand_sequenced (n : LinkSeq) {payload : List Byte} (nonempty : 1 ≤ payload.length)
    (fits : payload.length ≤ 80) :
    goodFrameCommand 0x01 n.toNat payload = .sequencedFrameReceived n ⟨payload, .nothing⟩ := by
  have number : BitVec.ofNat 12 n.toNat = n := by simp
  have good : goodFrameCommand 0x01 n.toNat payload =
      .sequencedFrameReceived (BitVec.ofNat 12 n.toNat) ⟨payload, .nothing⟩ :=
    (if_pos rfl).trans (if_pos ⟨nonempty, fits⟩)
  rw [good, number]

theorem goodFrameCommand_train (ready : Bool) (epoch : Byte) (seq : Nat) :
    goodFrameCommand 0x02 seq [boolCode ready, epoch] = .trainReceived ready epoch := by
  cases ready <;> rfl

theorem goodFrameCommand_ack (n : LinkSeq) (seq : Nat) :
    goodFrameCommand 0x03 seq (leBytes 2 n.toNat) = .ackReceived n := by
  obtain ⟨inRange, number⟩ := seq_readBack n
  exact (if_pos inRange).trans (congrArg Instr.ackReceived number)

theorem goodFrameCommand_resend (n : LinkSeq) (seq : Nat) :
    goodFrameCommand 0x04 seq (leBytes 2 n.toNat) = .resendReceived n := by
  obtain ⟨inRange, number⟩ := seq_readBack n
  exact (if_pos inRange).trans (congrArg Instr.resendReceived number)

theorem goodFrameCommand_idle (seq : Nat) : goodFrameCommand 0x05 seq [] = .idleReceived := rfl

/-- Settles O60: the frame is read by its kind, or, with another check, is bad; control frames carry the number 0. -/
theorem framesReadBackAsWritten : Obligations.FramesReadBackAsWritten := by
  refine ⟨fun ready epoch => ?train, fun n => ?ack, fun n => ?resend, ?idle, fun n payload nonempty fits => ?sequenced,
    fun kind n payload check fits wrong => ?bad⟩
  case train => exact (frameCommand_frameBytes 0x02 0 (by simp)).trans (goodFrameCommand_train ready epoch 0)
  case ack => exact (frameCommand_frameBytes 0x03 0 (by simp [leBytes_length])).trans (goodFrameCommand_ack n 0)
  case resend => exact (frameCommand_frameBytes 0x04 0 (by simp [leBytes_length])).trans (goodFrameCommand_resend n 0)
  case idle => exact (frameCommand_frameBytes 0x05 0 (by simp)).trans (goodFrameCommand_idle 0)
  case sequenced => exact (frameCommand_frameBytes 0x01 n fits).trans (goodFrameCommand_sequenced n nonempty fits)
  case bad => exact (frameCommand_envelope kind n check fits).trans (if_neg wrong)

end Sys2Proof.Machine

/-! PROOF. The queue of commands: a step runs the command at its front on the state with its rest, and no command touches
what waits in it (logs 1, 4 and 24). -/

namespace Sys2Proof.Machine

/-! ## A step -/

theorem step_front (s : State) (c : Instr) (rest : List Instr) :
    step (s.setPending (c :: rest)) = exec c (s.setPending rest) := rfl

theorem step_idle {s : State} (empty : s.pending = []) : step s = .next s := by
  unfold step
  rw [empty]

/-- Settles O1, from the two shapes of the queue. -/
theorem stepRunsFrontCommand : Obligations.StepRunsFrontCommand := fun s =>
  ⟨step_front s, step_idle⟩

/-! ## The queue under every command -/

@[simp] theorem State.takeAck_keepsQueue (s : State) (n : LinkSeq) : (s.takeAck n).pending = s.pending := by
  unfold State.takeAck
  dsimp only
  split
  next => split <;> simp
  next => rfl

/-- A management command is given the queue with the rest of the state, and leaves it alone. -/
theorem commandByCode_keepsQueue (s : State) (code : Byte) (o : List Byte) :
    (commandByCode code o s).after.pending = s.pending := by
  apply commandByCode_induction (P := fun r => r.after.pending = s.pending) s o
  case refuse => exact fun _ => rfl
  case quiesce => simp [commandQuiesce_frame]
  all_goals
    simp only [commandIdentify, commandWindowWrite, commandWindowRead, commandWindowClear, commandWindowClearBay,
      commandBayStatus, commandBayPolicy, commandPowerOn, commandBayRestart, commandEventRead, commandEventEnable,
      commandEventClear, commandEventInject, commandCountersRead, commandBridgeReset]
    (repeat' split) <;> rfl

theorem State.acceptMgmt_keepsQueue (s : State) (seq code : Byte) (o : List Byte) :
    (s.acceptMgmt seq (commandByCode code o)).pending = s.pending := by
  unfold State.acceptMgmt
  split
  next => rfl
  next => exact commandByCode_keepsQueue s code o

theorem State.intake_keepsQueue (s : State) (p : Packet) (m : Meeting) : (s.intake p m).pending = s.pending := by
  cases p with
  | fetch f => exact (s.intakeRequest_frame .fetch f m).2
  | store f => exact (s.intakeStore_frame f m).2
  | portFetch f => exact (s.intakeRequest_frame .portFetch f m).2
  | portStore f => exact (s.intakeRequest_frame .portStore f m).2
  | mgmt seq code o =>
    exact State.withCredit_induction (P := fun u => u.pending = s.pending) s .mgmt _ rfl (by simp)
      (State.acceptMgmt_keepsQueue _ seq code o)
  | mgmtShort => simp [State.intake]
  | unknownKind => simp [State.intake]

/-- No command touches the queue: the resets keep it, and every other effect is on another field. -/
theorem exec_keepsQueue {i : Instr} {s t : State} (e : exec i s = .next t) : t.pending = s.pending := by
  apply exec_induction (P := fun u => u.pending = s.pending) s (h := e)
  case reset => exact fun _ _ => rfl
  case accept => exact fun p m _ => State.intake_keepsQueue _ p m
  case intake => exact s.intake_keepsQueue
  -- what remains is one of the operations whose frame holds the queue
  all_goals intros; simp

/-- Settles O2: a command answers, and its answer has the queue it met. -/
theorem everyCommandCompletes : Obligations.EveryCommandCompletes := by
  intro i s
  obtain ⟨t, answered⟩ := exec_answers i s
  exact ⟨t, answered, exec_keepsQueue answered⟩

end Sys2Proof.Machine
